-- ==== Sys2Proof/Word.lean ====
section
/-!
DEFINITION. The words of the block (00_scope.md R8): bytes, 16-bit words, and the text the formatter puts out.
-/

namespace Sys2Proof

/-- An 8-bit unsigned value: a buffer element or an opcode byte (R7 `BYTE_W`, R8). -/
abbrev Byte := BitVec 8

/-- A 16-bit unsigned value: a target address or an operand (R7 `ADDR_W`, `OPERAND_W`, R8). -/
abbrev Word := BitVec 16

/-- A formatter output: a string, written as the list of its characters (44_formatter.md R230). -/
abbrev Text := List Char

end Sys2Proof
end

