-- ==== Sys2Proof/Config.lean ====
section
/-!
DEFINITION. What is fixed for one model of the block: the OPEN parameter `HLT_CYCLES` and the longest instruction.
-/

namespace Sys2Proof.Config

/-- `HLT_CYCLES`, the base cycle count reported for the 12 HLT bytes: OPEN, a value in 0 to 8, the same for all
twelve (00_scope.md R7, 30_encoding.md R70, 92 D6). Nothing is known of it but its range (log entry 4). -/
opaque hltCycles : Fin 9

/-- The most buffer reads of one decode, and so the longest instruction in bytes (00_scope.md R7, 20_memory.md R48). -/
def maxInstrBytes : Nat := 3

end Sys2Proof.Config
end

