-- ==== Sys2Proof/Syntax.lean ====
section
/-!
DEFINITION. The syntax: mnemonics, addressing modes, the instruction record and its sets (10_state.md R23 to R32),
and the instructions: one constructor for each row of the opcode table (30_encoding.md table T256).
-/

namespace Sys2Proof

/-- The 75 mnemonic tags (30_encoding.md R64): 56 documented ones, then the 19 undocumented ones. -/
inductive Mnemonic where
  | ADC | AND | ASL | BCC | BCS | BEQ | BIT | BMI | BNE | BPL | BRK | BVC | BVS | CLC | CLD | CLI | CLV | CMP
  | CPX | CPY | DEC | DEX | DEY | EOR | INC | INX | INY | JMP | JSR | LDA | LDX | LDY | LSR | NOP | ORA | PHA
  | PHP | PLA | PLP | ROL | ROR | RTI | RTS | SBC | SEC | SED | SEI | STA | STX | STY | TAX | TAY | TSX | TXA
  | TXS | TYA
  | HLT | SLO | ANC | RLA | SRE | RRA | ALR | SAX | XAA | AHX | TAS | SHY | SHX | ARR | LAX | LAS | DCP | AXS
  | ISC
deriving DecidableEq, Repr

/-- The 13 addressing modes (10_state.md R25). Three carry the page-cross boolean `p`: whether a page crossing would
cost an extra cycle. -/
inductive AddressingMode where
  | implied
  | accumulator
  | immediate
  | zeropage
  | zeropageIndexedX
  | zeropageIndexedY
  | absolute
  | absoluteIndexedX (p : Bool)
  | absoluteIndexedY (p : Bool)
  | indirect
  | indexedIndirectX
  | indirectIndexedY (p : Bool)
  | relative
deriving DecidableEq, Repr

/-- The register tags (00_scope.md R14). The block has no such registers: they occur in record fields only. -/
inductive RegisterTag where
  | A | X | Y
deriving DecidableEq, Repr

/-- The status-flag tags (00_scope.md R14). The block has no such flags. -/
inductive FlagTag where
  | N | V | B | D | I | Z | C
deriving DecidableEq, Repr

/-- A set of register tags (10_state.md R31), one boolean for each tag, so that equal sets are equal data. -/
structure RegSet where
  a : Bool
  x : Bool
  y : Bool
deriving DecidableEq, Repr

/-- A set of status-flag tags (10_state.md R32). -/
structure FlagSet where
  n : Bool
  v : Bool
  b : Bool
  d : Bool
  i : Bool
  z : Bool
  c : Bool
deriving DecidableEq, Repr

def RegSet.empty : RegSet := { a := false, x := false, y := false }

def FlagSet.empty : FlagSet :=
  { n := false, v := false, b := false, d := false, i := false, z := false, c := false }

/-- The record's `opcode`: the mnemonic and the raw byte (10_state.md R24). -/
structure Opcode where
  mnemonic : Mnemonic
  rawByte : Byte
deriving DecidableEq, Repr

/-- The instruction record, the output of a decode (10_state.md R23), its fields in the source's order. -/
structure Record where
  /-- R24 -/
  opcode : Opcode
  /-- R25, with `p` where the mode carries it -/
  addressingMode : AddressingMode
  /-- R26: the caller's target address -/
  address : Word
  /-- R27: the base cycle count -/
  cycles : Byte
  /-- R28 -/
  operand : Option Word
  /-- R29 -/
  extraCycle : Bool
  /-- R31: `none` is "none modeled" -/
  registersRead : Option RegSet
  /-- R31 -/
  registersWritten : Option RegSet
  /-- R32 -/
  affectedFlags : Option FlagSet
  /-- R30 -/
  illegal : Bool
deriving DecidableEq, Repr

/-- The instructions: one constructor for each of the 256 rows of table T256. A name is the mnemonic, the addressing
mode (Imp implied, Acc accumulator, Imm immediate, Zp zeropage, Zpx and Zpy zeropage indexed, Abs absolute, Abx and
Aby absolute indexed, Ind indirect, Izx indexed indirect, Izy indirect indexed, Rel relative) and the opcode byte.
A constructor carries its operand bytes: none in format F1, `ll` in F2, the low byte `ll` and the high byte `hh` in
F3 (30_encoding.md R60). They stand in the order F2, F3, F1, and in the order of their bytes within a format. -/
inductive Instr where
  | oraIzx01 (ll : Byte)
  | sloIzx03 (ll : Byte)
  | nopZp04 (ll : Byte)
  | oraZp05 (ll : Byte)
  | aslZp06 (ll : Byte)
  | sloZp07 (ll : Byte)
  | oraImm09 (ll : Byte)
  | ancImm0B (ll : Byte)
  | bplRel10 (ll : Byte)
  | oraIzy11 (ll : Byte)
  | sloIzy13 (ll : Byte)
  | nopZpx14 (ll : Byte)
  | oraZpx15 (ll : Byte)
  | aslZpx16 (ll : Byte)
  | sloZpx17 (ll : Byte)
  | andIzx21 (ll : Byte)
  | rlaIzx23 (ll : Byte)
  | bitZp24 (ll : Byte)
  | andZp25 (ll : Byte)
  | rolZp26 (ll : Byte)
  | rlaZp27 (ll : Byte)
  | andImm29 (ll : Byte)
  | ancImm2B (ll : Byte)
  | bmiRel30 (ll : Byte)
  | andIzy31 (ll : Byte)
  | rlaIzy33 (ll : Byte)
  | nopZpx34 (ll : Byte)
  | andZpx35 (ll : Byte)
  | rolZpx36 (ll : Byte)
  | rlaZpx37 (ll : Byte)
  | eorIzx41 (ll : Byte)
  | sreIzx43 (ll : Byte)
  | nopZp44 (ll : Byte)
  | eorZp45 (ll : Byte)
  | lsrZp46 (ll : Byte)
  | sreZp47 (ll : Byte)
  | eorImm49 (ll : Byte)
  | alrImm4B (ll : Byte)
  | bvcRel50 (ll : Byte)
  | eorIzy51 (ll : Byte)
  | sreIzy53 (ll : Byte)
  | nopZpx54 (ll : Byte)
  | eorZpx55 (ll : Byte)
  | lsrZpx56 (ll : Byte)
  | sreZpx57 (ll : Byte)
  | adcIzx61 (ll : Byte)
  | rraIzx63 (ll : Byte)
  | nopZp64 (ll : Byte)
  | adcZp65 (ll : Byte)
  | rorZp66 (ll : Byte)
  | rraZp67 (ll : Byte)
  | adcImm69 (ll : Byte)
  | arrImm6B (ll : Byte)
  | bvsRel70 (ll : Byte)
  | adcIzy71 (ll : Byte)
  | rraIzy73 (ll : Byte)
  | nopZpx74 (ll : Byte)
  | adcZpx75 (ll : Byte)
  | rorZpx76 (ll : Byte)
  | rraZpx77 (ll : Byte)
  | nopImm80 (ll : Byte)
  | staIzx81 (ll : Byte)
  | nopImm82 (ll : Byte)
  | saxIzx83 (ll : Byte)
  | styZp84 (ll : Byte)
  | staZp85 (ll : Byte)
  | stxZp86 (ll : Byte)
  | saxZp87 (ll : Byte)
  | nopImm89 (ll : Byte)
  | xaaImm8B (ll : Byte)
  | bccRel90 (ll : Byte)
  | staIzy91 (ll : Byte)
  | ahxIzy93 (ll : Byte)
  | styZpx94 (ll : Byte)
  | staZpx95 (ll : Byte)
  | stxZpy96 (ll : Byte)
  | saxZpy97 (ll : Byte)
  | ldyImmA0 (ll : Byte)
  | ldaIzxA1 (ll : Byte)
  | ldxImmA2 (ll : Byte)
  | laxIzxA3 (ll : Byte)
  | ldyZpA4 (ll : Byte)
  | ldaZpA5 (ll : Byte)
  | ldxZpA6 (ll : Byte)
  | laxZpA7 (ll : Byte)
  | ldaImmA9 (ll : Byte)
  | laxImmAB (ll : Byte)
  | bcsRelB0 (ll : Byte)
  | ldaIzyB1 (ll : Byte)
  | laxIzyB3 (ll : Byte)
  | ldyZpxB4 (ll : Byte)
  | ldaZpxB5 (ll : Byte)
  | ldxZpyB6 (ll : Byte)
  | laxZpyB7 (ll : Byte)
  | cpyImmC0 (ll : Byte)
  | cmpIzxC1 (ll : Byte)
  | nopImmC2 (ll : Byte)
  | dcpIzxC3 (ll : Byte)
  | cpyZpC4 (ll : Byte)
  | cmpZpC5 (ll : Byte)
  | decZpC6 (ll : Byte)
  | dcpZpC7 (ll : Byte)
  | cmpImmC9 (ll : Byte)
  | axsImmCB (ll : Byte)
  | bneRelD0 (ll : Byte)
  | cmpIzyD1 (ll : Byte)
  | dcpIzyD3 (ll : Byte)
  | nopZpxD4 (ll : Byte)
  | cmpZpxD5 (ll : Byte)
  | decZpxD6 (ll : Byte)
  | dcpZpxD7 (ll : Byte)
  | cpxImmE0 (ll : Byte)
  | sbcIzxE1 (ll : Byte)
  | nopImmE2 (ll : Byte)
  | iscIzxE3 (ll : Byte)
  | cpxZpE4 (ll : Byte)
  | sbcZpE5 (ll : Byte)
  | incZpE6 (ll : Byte)
  | iscZpE7 (ll : Byte)
  | sbcImmE9 (ll : Byte)
  | sbcImmEB (ll : Byte)
  | beqRelF0 (ll : Byte)
  | sbcIzyF1 (ll : Byte)
  | iscIzyF3 (ll : Byte)
  | nopZpxF4 (ll : Byte)
  | sbcZpxF5 (ll : Byte)
  | incZpxF6 (ll : Byte)
  | iscZpxF7 (ll : Byte)
  | nopAbs0C (ll hh : Byte)
  | oraAbs0D (ll hh : Byte)
  | aslAbs0E (ll hh : Byte)
  | sloAbs0F (ll hh : Byte)
  | oraAby19 (ll hh : Byte)
  | sloAby1B (ll hh : Byte)
  | nopAbx1C (ll hh : Byte)
  | oraAbx1D (ll hh : Byte)
  | aslAbx1E (ll hh : Byte)
  | sloAbx1F (ll hh : Byte)
  | jsrAbs20 (ll hh : Byte)
  | bitAbs2C (ll hh : Byte)
  | andAbs2D (ll hh : Byte)
  | rolAbs2E (ll hh : Byte)
  | rlaAbs2F (ll hh : Byte)
  | andAby39 (ll hh : Byte)
  | rlaAby3B (ll hh : Byte)
  | nopAbx3C (ll hh : Byte)
  | andAbx3D (ll hh : Byte)
  | rolAbx3E (ll hh : Byte)
  | rlaAbx3F (ll hh : Byte)
  | jmpAbs4C (ll hh : Byte)
  | eorAbs4D (ll hh : Byte)
  | lsrAbs4E (ll hh : Byte)
  | sreAbs4F (ll hh : Byte)
  | eorAby59 (ll hh : Byte)
  | sreAby5B (ll hh : Byte)
  | nopAbx5C (ll hh : Byte)
  | eorAbx5D (ll hh : Byte)
  | lsrAbx5E (ll hh : Byte)
  | sreAbx5F (ll hh : Byte)
  | jmpInd6C (ll hh : Byte)
  | adcAbs6D (ll hh : Byte)
  | rorAbs6E (ll hh : Byte)
  | rraAbs6F (ll hh : Byte)
  | adcAby79 (ll hh : Byte)
  | rraAby7B (ll hh : Byte)
  | nopAbx7C (ll hh : Byte)
  | adcAbx7D (ll hh : Byte)
  | rorAbx7E (ll hh : Byte)
  | rraAbx7F (ll hh : Byte)
  | styAbs8C (ll hh : Byte)
  | staAbs8D (ll hh : Byte)
  | stxAbs8E (ll hh : Byte)
  | saxAbs8F (ll hh : Byte)
  | staAby99 (ll hh : Byte)
  | tasAby9B (ll hh : Byte)
  | shyAbx9C (ll hh : Byte)
  | staAbx9D (ll hh : Byte)
  | shxAby9E (ll hh : Byte)
  | ahxAby9F (ll hh : Byte)
  | ldyAbsAC (ll hh : Byte)
  | ldaAbsAD (ll hh : Byte)
  | ldxAbsAE (ll hh : Byte)
  | laxAbsAF (ll hh : Byte)
  | ldaAbyB9 (ll hh : Byte)
  | lasAbyBB (ll hh : Byte)
  | ldyAbxBC (ll hh : Byte)
  | ldaAbxBD (ll hh : Byte)
  | ldxAbyBE (ll hh : Byte)
  | laxAbyBF (ll hh : Byte)
  | cpyAbsCC (ll hh : Byte)
  | cmpAbsCD (ll hh : Byte)
  | decAbsCE (ll hh : Byte)
  | dcpAbsCF (ll hh : Byte)
  | cmpAbyD9 (ll hh : Byte)
  | dcpAbyDB (ll hh : Byte)
  | nopAbxDC (ll hh : Byte)
  | cmpAbxDD (ll hh : Byte)
  | decAbxDE (ll hh : Byte)
  | dcpAbxDF (ll hh : Byte)
  | cpxAbsEC (ll hh : Byte)
  | sbcAbsED (ll hh : Byte)
  | incAbsEE (ll hh : Byte)
  | iscAbsEF (ll hh : Byte)
  | sbcAbyF9 (ll hh : Byte)
  | iscAbyFB (ll hh : Byte)
  | nopAbxFC (ll hh : Byte)
  | sbcAbxFD (ll hh : Byte)
  | incAbxFE (ll hh : Byte)
  | iscAbxFF (ll hh : Byte)
  | brkImp00
  | hltImp02
  | phpImp08
  | aslAcc0A
  | hltImp12
  | clcImp18
  | nopImp1A
  | hltImp22
  | plpImp28
  | rolAcc2A
  | hltImp32
  | secImp38
  | nopImp3A
  | rtiImp40
  | hltImp42
  | phaImp48
  | lsrAcc4A
  | hltImp52
  | cliImp58
  | nopImp5A
  | rtsImp60
  | hltImp62
  | plaImp68
  | rorAcc6A
  | hltImp72
  | seiImp78
  | nopImp7A
  | deyImp88
  | txaImp8A
  | hltImp92
  | tyaImp98
  | txsImp9A
  | tayImpA8
  | taxImpAA
  | hltImpB2
  | clvImpB8
  | tsxImpBA
  | inyImpC8
  | dexImpCA
  | hltImpD2
  | cldImpD8
  | nopImpDA
  | inxImpE8
  | nopImpEA
  | hltImpF2
  | sedImpF8
  | nopImpFA
deriving DecidableEq, Repr

end Sys2Proof
end

