-- ==== Sys2Proof/Decode.lean ====
section
/-!
DEFINITION. The decoder and the encoder. An instruction is its opcode byte and then its operand bytes, the low byte
first (30_encoding.md R60). The whole opcode byte selects the row (R63); no byte is reserved (R71).
-/

namespace Sys2Proof

/-- Why a decoder has nothing to read: there is no opcode byte (20_memory.md R43). It is the only reason (R71). -/
inductive DecodeError where
  | noOpcodeByte
deriving DecidableEq, Repr

/-- The format of an opcode byte (30_encoding.md R60): how many operand bytes follow, and the instruction they give. -/
inductive Form where
  | f1 (i : Instr)
  | f2 (mk : Byte → Instr)
  | f3 (mk : Byte → Byte → Instr)

/-- The formats of the bytes 0x00 to 0x0F. -/
def forms0 : List Form :=
  [.f1 .brkImp00, .f2 .oraIzx01, .f1 .hltImp02, .f2 .sloIzx03, .f2 .nopZp04, .f2 .oraZp05, .f2 .aslZp06,
  .f2 .sloZp07, .f1 .phpImp08, .f2 .oraImm09, .f1 .aslAcc0A, .f2 .ancImm0B, .f3 .nopAbs0C, .f3 .oraAbs0D,
  .f3 .aslAbs0E, .f3 .sloAbs0F]

/-- The formats of the bytes 0x10 to 0x1F. -/
def forms1 : List Form :=
  [.f2 .bplRel10, .f2 .oraIzy11, .f1 .hltImp12, .f2 .sloIzy13, .f2 .nopZpx14, .f2 .oraZpx15, .f2 .aslZpx16,
  .f2 .sloZpx17, .f1 .clcImp18, .f3 .oraAby19, .f1 .nopImp1A, .f3 .sloAby1B, .f3 .nopAbx1C, .f3 .oraAbx1D,
  .f3 .aslAbx1E, .f3 .sloAbx1F]

/-- The formats of the bytes 0x20 to 0x2F. -/
def forms2 : List Form :=
  [.f3 .jsrAbs20, .f2 .andIzx21, .f1 .hltImp22, .f2 .rlaIzx23, .f2 .bitZp24, .f2 .andZp25, .f2 .rolZp26,
  .f2 .rlaZp27, .f1 .plpImp28, .f2 .andImm29, .f1 .rolAcc2A, .f2 .ancImm2B, .f3 .bitAbs2C, .f3 .andAbs2D,
  .f3 .rolAbs2E, .f3 .rlaAbs2F]

/-- The formats of the bytes 0x30 to 0x3F. -/
def forms3 : List Form :=
  [.f2 .bmiRel30, .f2 .andIzy31, .f1 .hltImp32, .f2 .rlaIzy33, .f2 .nopZpx34, .f2 .andZpx35, .f2 .rolZpx36,
  .f2 .rlaZpx37, .f1 .secImp38, .f3 .andAby39, .f1 .nopImp3A, .f3 .rlaAby3B, .f3 .nopAbx3C, .f3 .andAbx3D,
  .f3 .rolAbx3E, .f3 .rlaAbx3F]

/-- The formats of the bytes 0x40 to 0x4F. -/
def forms4 : List Form :=
  [.f1 .rtiImp40, .f2 .eorIzx41, .f1 .hltImp42, .f2 .sreIzx43, .f2 .nopZp44, .f2 .eorZp45, .f2 .lsrZp46,
  .f2 .sreZp47, .f1 .phaImp48, .f2 .eorImm49, .f1 .lsrAcc4A, .f2 .alrImm4B, .f3 .jmpAbs4C, .f3 .eorAbs4D,
  .f3 .lsrAbs4E, .f3 .sreAbs4F]

/-- The formats of the bytes 0x50 to 0x5F. -/
def forms5 : List Form :=
  [.f2 .bvcRel50, .f2 .eorIzy51, .f1 .hltImp52, .f2 .sreIzy53, .f2 .nopZpx54, .f2 .eorZpx55, .f2 .lsrZpx56,
  .f2 .sreZpx57, .f1 .cliImp58, .f3 .eorAby59, .f1 .nopImp5A, .f3 .sreAby5B, .f3 .nopAbx5C, .f3 .eorAbx5D,
  .f3 .lsrAbx5E, .f3 .sreAbx5F]

/-- The formats of the bytes 0x60 to 0x6F. -/
def forms6 : List Form :=
  [.f1 .rtsImp60, .f2 .adcIzx61, .f1 .hltImp62, .f2 .rraIzx63, .f2 .nopZp64, .f2 .adcZp65, .f2 .rorZp66,
  .f2 .rraZp67, .f1 .plaImp68, .f2 .adcImm69, .f1 .rorAcc6A, .f2 .arrImm6B, .f3 .jmpInd6C, .f3 .adcAbs6D,
  .f3 .rorAbs6E, .f3 .rraAbs6F]

/-- The formats of the bytes 0x70 to 0x7F. -/
def forms7 : List Form :=
  [.f2 .bvsRel70, .f2 .adcIzy71, .f1 .hltImp72, .f2 .rraIzy73, .f2 .nopZpx74, .f2 .adcZpx75, .f2 .rorZpx76,
  .f2 .rraZpx77, .f1 .seiImp78, .f3 .adcAby79, .f1 .nopImp7A, .f3 .rraAby7B, .f3 .nopAbx7C, .f3 .adcAbx7D,
  .f3 .rorAbx7E, .f3 .rraAbx7F]

/-- The formats of the bytes 0x80 to 0x8F. -/
def forms8 : List Form :=
  [.f2 .nopImm80, .f2 .staIzx81, .f2 .nopImm82, .f2 .saxIzx83, .f2 .styZp84, .f2 .staZp85, .f2 .stxZp86,
  .f2 .saxZp87, .f1 .deyImp88, .f2 .nopImm89, .f1 .txaImp8A, .f2 .xaaImm8B, .f3 .styAbs8C, .f3 .staAbs8D,
  .f3 .stxAbs8E, .f3 .saxAbs8F]

/-- The formats of the bytes 0x90 to 0x9F. -/
def forms9 : List Form :=
  [.f2 .bccRel90, .f2 .staIzy91, .f1 .hltImp92, .f2 .ahxIzy93, .f2 .styZpx94, .f2 .staZpx95, .f2 .stxZpy96,
  .f2 .saxZpy97, .f1 .tyaImp98, .f3 .staAby99, .f1 .txsImp9A, .f3 .tasAby9B, .f3 .shyAbx9C, .f3 .staAbx9D,
  .f3 .shxAby9E, .f3 .ahxAby9F]

/-- The formats of the bytes 0xA0 to 0xAF. -/
def formsA : List Form :=
  [.f2 .ldyImmA0, .f2 .ldaIzxA1, .f2 .ldxImmA2, .f2 .laxIzxA3, .f2 .ldyZpA4, .f2 .ldaZpA5, .f2 .ldxZpA6,
  .f2 .laxZpA7, .f1 .tayImpA8, .f2 .ldaImmA9, .f1 .taxImpAA, .f2 .laxImmAB, .f3 .ldyAbsAC, .f3 .ldaAbsAD,
  .f3 .ldxAbsAE, .f3 .laxAbsAF]

/-- The formats of the bytes 0xB0 to 0xBF. -/
def formsB : List Form :=
  [.f2 .bcsRelB0, .f2 .ldaIzyB1, .f1 .hltImpB2, .f2 .laxIzyB3, .f2 .ldyZpxB4, .f2 .ldaZpxB5, .f2 .ldxZpyB6,
  .f2 .laxZpyB7, .f1 .clvImpB8, .f3 .ldaAbyB9, .f1 .tsxImpBA, .f3 .lasAbyBB, .f3 .ldyAbxBC, .f3 .ldaAbxBD,
  .f3 .ldxAbyBE, .f3 .laxAbyBF]

/-- The formats of the bytes 0xC0 to 0xCF. -/
def formsC : List Form :=
  [.f2 .cpyImmC0, .f2 .cmpIzxC1, .f2 .nopImmC2, .f2 .dcpIzxC3, .f2 .cpyZpC4, .f2 .cmpZpC5, .f2 .decZpC6,
  .f2 .dcpZpC7, .f1 .inyImpC8, .f2 .cmpImmC9, .f1 .dexImpCA, .f2 .axsImmCB, .f3 .cpyAbsCC, .f3 .cmpAbsCD,
  .f3 .decAbsCE, .f3 .dcpAbsCF]

/-- The formats of the bytes 0xD0 to 0xDF. -/
def formsD : List Form :=
  [.f2 .bneRelD0, .f2 .cmpIzyD1, .f1 .hltImpD2, .f2 .dcpIzyD3, .f2 .nopZpxD4, .f2 .cmpZpxD5, .f2 .decZpxD6,
  .f2 .dcpZpxD7, .f1 .cldImpD8, .f3 .cmpAbyD9, .f1 .nopImpDA, .f3 .dcpAbyDB, .f3 .nopAbxDC, .f3 .cmpAbxDD,
  .f3 .decAbxDE, .f3 .dcpAbxDF]

/-- The formats of the bytes 0xE0 to 0xEF. -/
def formsE : List Form :=
  [.f2 .cpxImmE0, .f2 .sbcIzxE1, .f2 .nopImmE2, .f2 .iscIzxE3, .f2 .cpxZpE4, .f2 .sbcZpE5, .f2 .incZpE6,
  .f2 .iscZpE7, .f1 .inxImpE8, .f2 .sbcImmE9, .f1 .nopImpEA, .f2 .sbcImmEB, .f3 .cpxAbsEC, .f3 .sbcAbsED,
  .f3 .incAbsEE, .f3 .iscAbsEF]

/-- The formats of the bytes 0xF0 to 0xFF. -/
def formsF : List Form :=
  [.f2 .beqRelF0, .f2 .sbcIzyF1, .f1 .hltImpF2, .f2 .iscIzyF3, .f2 .nopZpxF4, .f2 .sbcZpxF5, .f2 .incZpxF6,
  .f2 .iscZpxF7, .f1 .sedImpF8, .f3 .sbcAbyF9, .f1 .nopImpFA, .f3 .iscAbyFB, .f3 .nopAbxFC, .f3 .sbcAbxFD,
  .f3 .incAbxFE, .f3 .iscAbxFF]

/-- The formats of the 256 opcode bytes, by the high and the low digit of the byte. -/
def opcodePages : List (List Form) :=
  [forms0, forms1, forms2, forms3, forms4, forms5, forms6, forms7, forms8, forms9, formsA, formsB, formsC,
  formsD, formsE, formsF]



theorem opcodePage_length : ∀ k : Fin 16, (opcodePages[k.val]'(by exact k.isLt)).length = 16 := by decide

/-- The format of an opcode byte: total, with no catch-all arm (30_encoding.md R63, R72). -/
def form (b : Byte) : Form :=
  have hi : b.toNat / 16 < 16 := by have := b.isLt; omega
  (opcodePages[b.toNat / 16]'(by exact hi))[b.toNat % 16]'(by
    rw [opcodePage_length ⟨b.toNat / 16, hi⟩]; omega)

/-- Decodes the instruction that the bytes begin with, and gives the bytes after it. A missing operand byte is zero
(20_memory.md R41, 40_decode.md R103). The one rejection is `noOpcodeByte`. -/
def decode : List Byte → Except DecodeError (Instr × List Byte)
  | [] => .error .noOpcodeByte
  | b :: rest =>
    match form b with
    | .f1 i => .ok (i, rest)
    | .f2 mk => .ok (mk (rest.headD 0), rest.drop 1)
    | .f3 mk => .ok (mk (rest.headD 0) ((rest.drop 1).headD 0), rest.drop 2)

/-- The bytes of an instruction, the opcode byte first (30_encoding.md R60, table T256). -/
def encode : Instr → List Byte
  | .brkImp00 => [0x00]
  | .oraIzx01 ll => [0x01, ll]
  | .hltImp02 => [0x02]
  | .sloIzx03 ll => [0x03, ll]
  | .nopZp04 ll => [0x04, ll]
  | .oraZp05 ll => [0x05, ll]
  | .aslZp06 ll => [0x06, ll]
  | .sloZp07 ll => [0x07, ll]
  | .phpImp08 => [0x08]
  | .oraImm09 ll => [0x09, ll]
  | .aslAcc0A => [0x0A]
  | .ancImm0B ll => [0x0B, ll]
  | .nopAbs0C ll hh => [0x0C, ll, hh]
  | .oraAbs0D ll hh => [0x0D, ll, hh]
  | .aslAbs0E ll hh => [0x0E, ll, hh]
  | .sloAbs0F ll hh => [0x0F, ll, hh]
  | .bplRel10 ll => [0x10, ll]
  | .oraIzy11 ll => [0x11, ll]
  | .hltImp12 => [0x12]
  | .sloIzy13 ll => [0x13, ll]
  | .nopZpx14 ll => [0x14, ll]
  | .oraZpx15 ll => [0x15, ll]
  | .aslZpx16 ll => [0x16, ll]
  | .sloZpx17 ll => [0x17, ll]
  | .clcImp18 => [0x18]
  | .oraAby19 ll hh => [0x19, ll, hh]
  | .nopImp1A => [0x1A]
  | .sloAby1B ll hh => [0x1B, ll, hh]
  | .nopAbx1C ll hh => [0x1C, ll, hh]
  | .oraAbx1D ll hh => [0x1D, ll, hh]
  | .aslAbx1E ll hh => [0x1E, ll, hh]
  | .sloAbx1F ll hh => [0x1F, ll, hh]
  | .jsrAbs20 ll hh => [0x20, ll, hh]
  | .andIzx21 ll => [0x21, ll]
  | .hltImp22 => [0x22]
  | .rlaIzx23 ll => [0x23, ll]
  | .bitZp24 ll => [0x24, ll]
  | .andZp25 ll => [0x25, ll]
  | .rolZp26 ll => [0x26, ll]
  | .rlaZp27 ll => [0x27, ll]
  | .plpImp28 => [0x28]
  | .andImm29 ll => [0x29, ll]
  | .rolAcc2A => [0x2A]
  | .ancImm2B ll => [0x2B, ll]
  | .bitAbs2C ll hh => [0x2C, ll, hh]
  | .andAbs2D ll hh => [0x2D, ll, hh]
  | .rolAbs2E ll hh => [0x2E, ll, hh]
  | .rlaAbs2F ll hh => [0x2F, ll, hh]
  | .bmiRel30 ll => [0x30, ll]
  | .andIzy31 ll => [0x31, ll]
  | .hltImp32 => [0x32]
  | .rlaIzy33 ll => [0x33, ll]
  | .nopZpx34 ll => [0x34, ll]
  | .andZpx35 ll => [0x35, ll]
  | .rolZpx36 ll => [0x36, ll]
  | .rlaZpx37 ll => [0x37, ll]
  | .secImp38 => [0x38]
  | .andAby39 ll hh => [0x39, ll, hh]
  | .nopImp3A => [0x3A]
  | .rlaAby3B ll hh => [0x3B, ll, hh]
  | .nopAbx3C ll hh => [0x3C, ll, hh]
  | .andAbx3D ll hh => [0x3D, ll, hh]
  | .rolAbx3E ll hh => [0x3E, ll, hh]
  | .rlaAbx3F ll hh => [0x3F, ll, hh]
  | .rtiImp40 => [0x40]
  | .eorIzx41 ll => [0x41, ll]
  | .hltImp42 => [0x42]
  | .sreIzx43 ll => [0x43, ll]
  | .nopZp44 ll => [0x44, ll]
  | .eorZp45 ll => [0x45, ll]
  | .lsrZp46 ll => [0x46, ll]
  | .sreZp47 ll => [0x47, ll]
  | .phaImp48 => [0x48]
  | .eorImm49 ll => [0x49, ll]
  | .lsrAcc4A => [0x4A]
  | .alrImm4B ll => [0x4B, ll]
  | .jmpAbs4C ll hh => [0x4C, ll, hh]
  | .eorAbs4D ll hh => [0x4D, ll, hh]
  | .lsrAbs4E ll hh => [0x4E, ll, hh]
  | .sreAbs4F ll hh => [0x4F, ll, hh]
  | .bvcRel50 ll => [0x50, ll]
  | .eorIzy51 ll => [0x51, ll]
  | .hltImp52 => [0x52]
  | .sreIzy53 ll => [0x53, ll]
  | .nopZpx54 ll => [0x54, ll]
  | .eorZpx55 ll => [0x55, ll]
  | .lsrZpx56 ll => [0x56, ll]
  | .sreZpx57 ll => [0x57, ll]
  | .cliImp58 => [0x58]
  | .eorAby59 ll hh => [0x59, ll, hh]
  | .nopImp5A => [0x5A]
  | .sreAby5B ll hh => [0x5B, ll, hh]
  | .nopAbx5C ll hh => [0x5C, ll, hh]
  | .eorAbx5D ll hh => [0x5D, ll, hh]
  | .lsrAbx5E ll hh => [0x5E, ll, hh]
  | .sreAbx5F ll hh => [0x5F, ll, hh]
  | .rtsImp60 => [0x60]
  | .adcIzx61 ll => [0x61, ll]
  | .hltImp62 => [0x62]
  | .rraIzx63 ll => [0x63, ll]
  | .nopZp64 ll => [0x64, ll]
  | .adcZp65 ll => [0x65, ll]
  | .rorZp66 ll => [0x66, ll]
  | .rraZp67 ll => [0x67, ll]
  | .plaImp68 => [0x68]
  | .adcImm69 ll => [0x69, ll]
  | .rorAcc6A => [0x6A]
  | .arrImm6B ll => [0x6B, ll]
  | .jmpInd6C ll hh => [0x6C, ll, hh]
  | .adcAbs6D ll hh => [0x6D, ll, hh]
  | .rorAbs6E ll hh => [0x6E, ll, hh]
  | .rraAbs6F ll hh => [0x6F, ll, hh]
  | .bvsRel70 ll => [0x70, ll]
  | .adcIzy71 ll => [0x71, ll]
  | .hltImp72 => [0x72]
  | .rraIzy73 ll => [0x73, ll]
  | .nopZpx74 ll => [0x74, ll]
  | .adcZpx75 ll => [0x75, ll]
  | .rorZpx76 ll => [0x76, ll]
  | .rraZpx77 ll => [0x77, ll]
  | .seiImp78 => [0x78]
  | .adcAby79 ll hh => [0x79, ll, hh]
  | .nopImp7A => [0x7A]
  | .rraAby7B ll hh => [0x7B, ll, hh]
  | .nopAbx7C ll hh => [0x7C, ll, hh]
  | .adcAbx7D ll hh => [0x7D, ll, hh]
  | .rorAbx7E ll hh => [0x7E, ll, hh]
  | .rraAbx7F ll hh => [0x7F, ll, hh]
  | .nopImm80 ll => [0x80, ll]
  | .staIzx81 ll => [0x81, ll]
  | .nopImm82 ll => [0x82, ll]
  | .saxIzx83 ll => [0x83, ll]
  | .styZp84 ll => [0x84, ll]
  | .staZp85 ll => [0x85, ll]
  | .stxZp86 ll => [0x86, ll]
  | .saxZp87 ll => [0x87, ll]
  | .deyImp88 => [0x88]
  | .nopImm89 ll => [0x89, ll]
  | .txaImp8A => [0x8A]
  | .xaaImm8B ll => [0x8B, ll]
  | .styAbs8C ll hh => [0x8C, ll, hh]
  | .staAbs8D ll hh => [0x8D, ll, hh]
  | .stxAbs8E ll hh => [0x8E, ll, hh]
  | .saxAbs8F ll hh => [0x8F, ll, hh]
  | .bccRel90 ll => [0x90, ll]
  | .staIzy91 ll => [0x91, ll]
  | .hltImp92 => [0x92]
  | .ahxIzy93 ll => [0x93, ll]
  | .styZpx94 ll => [0x94, ll]
  | .staZpx95 ll => [0x95, ll]
  | .stxZpy96 ll => [0x96, ll]
  | .saxZpy97 ll => [0x97, ll]
  | .tyaImp98 => [0x98]
  | .staAby99 ll hh => [0x99, ll, hh]
  | .txsImp9A => [0x9A]
  | .tasAby9B ll hh => [0x9B, ll, hh]
  | .shyAbx9C ll hh => [0x9C, ll, hh]
  | .staAbx9D ll hh => [0x9D, ll, hh]
  | .shxAby9E ll hh => [0x9E, ll, hh]
  | .ahxAby9F ll hh => [0x9F, ll, hh]
  | .ldyImmA0 ll => [0xA0, ll]
  | .ldaIzxA1 ll => [0xA1, ll]
  | .ldxImmA2 ll => [0xA2, ll]
  | .laxIzxA3 ll => [0xA3, ll]
  | .ldyZpA4 ll => [0xA4, ll]
  | .ldaZpA5 ll => [0xA5, ll]
  | .ldxZpA6 ll => [0xA6, ll]
  | .laxZpA7 ll => [0xA7, ll]
  | .tayImpA8 => [0xA8]
  | .ldaImmA9 ll => [0xA9, ll]
  | .taxImpAA => [0xAA]
  | .laxImmAB ll => [0xAB, ll]
  | .ldyAbsAC ll hh => [0xAC, ll, hh]
  | .ldaAbsAD ll hh => [0xAD, ll, hh]
  | .ldxAbsAE ll hh => [0xAE, ll, hh]
  | .laxAbsAF ll hh => [0xAF, ll, hh]
  | .bcsRelB0 ll => [0xB0, ll]
  | .ldaIzyB1 ll => [0xB1, ll]
  | .hltImpB2 => [0xB2]
  | .laxIzyB3 ll => [0xB3, ll]
  | .ldyZpxB4 ll => [0xB4, ll]
  | .ldaZpxB5 ll => [0xB5, ll]
  | .ldxZpyB6 ll => [0xB6, ll]
  | .laxZpyB7 ll => [0xB7, ll]
  | .clvImpB8 => [0xB8]
  | .ldaAbyB9 ll hh => [0xB9, ll, hh]
  | .tsxImpBA => [0xBA]
  | .lasAbyBB ll hh => [0xBB, ll, hh]
  | .ldyAbxBC ll hh => [0xBC, ll, hh]
  | .ldaAbxBD ll hh => [0xBD, ll, hh]
  | .ldxAbyBE ll hh => [0xBE, ll, hh]
  | .laxAbyBF ll hh => [0xBF, ll, hh]
  | .cpyImmC0 ll => [0xC0, ll]
  | .cmpIzxC1 ll => [0xC1, ll]
  | .nopImmC2 ll => [0xC2, ll]
  | .dcpIzxC3 ll => [0xC3, ll]
  | .cpyZpC4 ll => [0xC4, ll]
  | .cmpZpC5 ll => [0xC5, ll]
  | .decZpC6 ll => [0xC6, ll]
  | .dcpZpC7 ll => [0xC7, ll]
  | .inyImpC8 => [0xC8]
  | .cmpImmC9 ll => [0xC9, ll]
  | .dexImpCA => [0xCA]
  | .axsImmCB ll => [0xCB, ll]
  | .cpyAbsCC ll hh => [0xCC, ll, hh]
  | .cmpAbsCD ll hh => [0xCD, ll, hh]
  | .decAbsCE ll hh => [0xCE, ll, hh]
  | .dcpAbsCF ll hh => [0xCF, ll, hh]
  | .bneRelD0 ll => [0xD0, ll]
  | .cmpIzyD1 ll => [0xD1, ll]
  | .hltImpD2 => [0xD2]
  | .dcpIzyD3 ll => [0xD3, ll]
  | .nopZpxD4 ll => [0xD4, ll]
  | .cmpZpxD5 ll => [0xD5, ll]
  | .decZpxD6 ll => [0xD6, ll]
  | .dcpZpxD7 ll => [0xD7, ll]
  | .cldImpD8 => [0xD8]
  | .cmpAbyD9 ll hh => [0xD9, ll, hh]
  | .nopImpDA => [0xDA]
  | .dcpAbyDB ll hh => [0xDB, ll, hh]
  | .nopAbxDC ll hh => [0xDC, ll, hh]
  | .cmpAbxDD ll hh => [0xDD, ll, hh]
  | .decAbxDE ll hh => [0xDE, ll, hh]
  | .dcpAbxDF ll hh => [0xDF, ll, hh]
  | .cpxImmE0 ll => [0xE0, ll]
  | .sbcIzxE1 ll => [0xE1, ll]
  | .nopImmE2 ll => [0xE2, ll]
  | .iscIzxE3 ll => [0xE3, ll]
  | .cpxZpE4 ll => [0xE4, ll]
  | .sbcZpE5 ll => [0xE5, ll]
  | .incZpE6 ll => [0xE6, ll]
  | .iscZpE7 ll => [0xE7, ll]
  | .inxImpE8 => [0xE8]
  | .sbcImmE9 ll => [0xE9, ll]
  | .nopImpEA => [0xEA]
  | .sbcImmEB ll => [0xEB, ll]
  | .cpxAbsEC ll hh => [0xEC, ll, hh]
  | .sbcAbsED ll hh => [0xED, ll, hh]
  | .incAbsEE ll hh => [0xEE, ll, hh]
  | .iscAbsEF ll hh => [0xEF, ll, hh]
  | .beqRelF0 ll => [0xF0, ll]
  | .sbcIzyF1 ll => [0xF1, ll]
  | .hltImpF2 => [0xF2]
  | .iscIzyF3 ll => [0xF3, ll]
  | .nopZpxF4 ll => [0xF4, ll]
  | .sbcZpxF5 ll => [0xF5, ll]
  | .incZpxF6 ll => [0xF6, ll]
  | .iscZpxF7 ll => [0xF7, ll]
  | .sedImpF8 => [0xF8]
  | .sbcAbyF9 ll hh => [0xF9, ll, hh]
  | .nopImpFA => [0xFA]
  | .iscAbyFB ll hh => [0xFB, ll, hh]
  | .nopAbxFC ll hh => [0xFC, ll, hh]
  | .sbcAbxFD ll hh => [0xFD, ll, hh]
  | .incAbxFE ll hh => [0xFE, ll, hh]
  | .iscAbxFF ll hh => [0xFF, ll, hh]

/-- The three bytes of an instruction whose bits are numbered as the opcode table numbers them: bit 0 is the least
significant bit of the first byte, and the bits from `nbits` up are zero. -/
def wordBytes (nbits w : Nat) : List Byte :=
  let v := w % 2 ^ nbits
  [BitVec.ofNat 8 v, BitVec.ofNat 8 (v / 256), BitVec.ofNat 8 (v / 65536)]

/-- The instruction the decoder reads from an instruction whose bits are `w`. -/
def decodeTableWord (nbits w : Nat) : Option Instr :=
  match decode (wordBytes nbits w) with
  | .ok (i, _) => some i
  | .error .noOpcodeByte => none

end Sys2Proof
end

