-- ==== Sys2Proof/Machine/Flags.lean ====
section
/-!
DEFINITION. The flag-effect resolver (40_decode.md R106). The block has no flags: these are reported sets.
-/

namespace Sys2Proof.Machine

/-- The set that holds the listed tags; order and repetition carry no meaning (00_scope.md R9, 10_state.md R32). -/
def flags (tags : List FlagTag) : FlagSet :=
  { n := tags.contains .N, v := tags.contains .V, b := tags.contains .B, d := tags.contains .D
    i := tags.contains .I, z := tags.contains .Z, c := tags.contains .C }

/-- `Flags(mn)` (R106): it depends on the mnemonic only. Absent is `none`. -/
def affectedFlags : Mnemonic → Option FlagSet
  | .PLP | .RTI => some (flags [.N, .V, .B, .D, .I, .Z, .C])
  | .ADC | .ISC | .RRA | .SBC => some (flags [.N, .V, .Z, .C])
  | .BIT => some (flags [.N, .V, .Z])
  | .ANC | .ASL | .CMP | .CPX | .CPY | .DCP | .LSR | .RLA | .ROL | .ROR | .SLO | .SRE => some (flags [.N, .Z, .C])
  | .AND | .DEC | .DEX | .DEY | .EOR | .INC | .INX | .INY | .LAX | .LDA | .LDX | .LDY | .ORA | .PLA | .TAX
  | .TAY | .TSX | .TXA | .TYA => some (flags [.N, .Z])
  | .BRK => some (flags [.B])
  | .CLC | .SEC => some (flags [.C])
  | .CLD | .SED => some (flags [.D])
  | .CLI | .SEI => some (flags [.I])
  | .CLV => some (flags [.V])
  | .AHX | .ALR | .ARR | .AXS | .BCC | .BCS | .BEQ | .BMI | .BNE | .BPL | .BVC | .BVS | .HLT | .JMP | .JSR
  | .LAS | .NOP | .PHA | .PHP | .RTS | .SAX | .SHX | .SHY | .STA | .STX | .STY | .TAS | .TXS | .XAA => none

end Sys2Proof.Machine
end

