-- ==== Sys2Proof/Machine/Operands.lean ====
section
/-!
DEFINITION. Operands: the widths and the byte order (00_scope.md R8, 20_memory.md R45), the operand byte count and
the extra cycle of each mode (30_encoding.md R61, 40_decode.md R102), and the register sets (40_decode.md R105).
-/

namespace Sys2Proof.Machine

/-- `zext_16(v)` (R8). -/
def zext16 (v : Byte) : Word := v.setWidth 16

/-- `sext_16(v)` (R8): `v` when bit 7 is 0, `v + 0xFF00` when it is 1. -/
def sext16 (v : Byte) : Word := if v.getLsbD 7 then zext16 v + 0xFF00 else zext16 v

/-- `v[7:0]`. -/
def lowByte (v : Word) : Byte := v.extractLsb' 0 8

/-- `v[15:8]`. -/
def highByte (v : Word) : Byte := v.extractLsb' 8 8

/-- `(hi << 8) | lo` (R8, R42, R45): the byte at the lower index is the low one. -/
def assembleWord (lo hi : Byte) : Word := zext16 hi <<< 8 ||| zext16 lo

/-- `n(mode)`, the operand byte count (30_encoding.md R61). -/
def operandCount : AddressingMode → Nat
  | .implied => 0
  | .accumulator => 0
  | .immediate => 1
  | .zeropage => 1
  | .zeropageIndexedX => 1
  | .zeropageIndexedY => 1
  | .indexedIndirectX => 1
  | .relative => 1
  | .indirectIndexedY _ => 1
  | .absolute => 2
  | .indirect => 2
  | .absoluteIndexedX _ => 2
  | .absoluteIndexedY _ => 2

/-- The extra cycle the operand fetcher returns (40_decode.md R102): true for `Relative`, the carried boolean where
the mode carries one, false otherwise. -/
def extraCycle : AddressingMode → Bool
  | .relative => true
  | .absoluteIndexedX p => p
  | .absoluteIndexedY p => p
  | .indirectIndexedY p => p
  | .implied => false
  | .accumulator => false
  | .immediate => false
  | .zeropage => false
  | .zeropageIndexedX => false
  | .zeropageIndexedY => false
  | .absolute => false
  | .indirect => false
  | .indexedIndirectX => false

/-! ### Register sets (40_decode.md R105) -/

/-- The set that holds the listed tags; order and repetition carry no meaning (00_scope.md R9, 10_state.md R31). -/
def regs (tags : List RegisterTag) : RegSet :=
  { a := tags.contains .A, x := tags.contains .X, y := tags.contains .Y }

def RegSet.union (s t : RegSet) : RegSet := { a := s.a || t.a, x := s.x || t.x, y := s.y || t.y }

/-- `opt` of R105: the empty set is reported as absent (92 D11). -/
def optRegs (s : RegSet) : Option RegSet := if s = RegSet.empty then none else some s

/-- `IndexReg(mode)` (R105). -/
def indexReg : AddressingMode → RegSet
  | .zeropageIndexedX => regs [.X]
  | .absoluteIndexedX _ => regs [.X]
  | .indexedIndirectX => regs [.X]
  | .zeropageIndexedY => regs [.Y]
  | .absoluteIndexedY _ => regs [.Y]
  | .indirectIndexedY _ => regs [.Y]
  | .implied => RegSet.empty
  | .accumulator => RegSet.empty
  | .immediate => RegSet.empty
  | .zeropage => RegSet.empty
  | .absolute => RegSet.empty
  | .indirect => RegSet.empty
  | .relative => RegSet.empty

/-- `AccForm(mn, mode)` (R105): the accumulator form of the shifts and rotates. -/
def accForm (mn : Mnemonic) (mode : AddressingMode) : RegSet :=
  if mode = .accumulator ∧ (mn = .ASL ∨ mn = .LSR ∨ mn = .ROL ∨ mn = .ROR) then regs [.A] else RegSet.empty

/-- `DataRead(mn)`: the registers whose value the 6502 instruction consumes as data (the table of R105). -/
def dataRead : Mnemonic → RegSet
  | .AHX | .AXS | .SAX | .TAS | .XAA => regs [.A, .X]
  | .ADC | .ALR | .ANC | .AND | .ARR | .BIT | .CMP | .DCP | .EOR | .ISC | .ORA | .PHA | .RLA | .RRA | .SBC
  | .SLO | .SRE | .STA | .TAX | .TAY => regs [.A]
  | .CPX | .DEX | .INX | .SHX | .STX | .TXA | .TXS => regs [.X]
  | .CPY | .DEY | .INY | .SHY | .STY | .TYA => regs [.Y]
  | .ASL | .BCC | .BCS | .BEQ | .BMI | .BNE | .BPL | .BRK | .BVC | .BVS | .CLC | .CLD | .CLI | .CLV | .DEC
  | .HLT | .INC | .JMP | .JSR | .LAS | .LAX | .LDA | .LDX | .LDY | .LSR | .NOP | .PHP | .PLA | .PLP | .ROL
  | .ROR | .RTI | .RTS | .SEC | .SED | .SEI | .TSX => RegSet.empty

/-- `DataWritten(mn)`: the registers the 6502 instruction produces as data (the table of R105). -/
def dataWritten : Mnemonic → RegSet
  | .LAS | .LAX => regs [.A, .X]
  | .ADC | .ALR | .ANC | .AND | .ARR | .EOR | .ISC | .LDA | .ORA | .PLA | .RLA | .RRA | .SBC | .SLO | .SRE
  | .TXA | .TYA | .XAA => regs [.A]
  | .AXS | .DEX | .INX | .LDX | .TAX | .TSX => regs [.X]
  | .DEY | .INY | .LDY | .TAY => regs [.Y]
  | .AHX | .ASL | .BCC | .BCS | .BEQ | .BIT | .BMI | .BNE | .BPL | .BRK | .BVC | .BVS | .CLC | .CLD | .CLI
  | .CLV | .CMP | .CPX | .CPY | .DCP | .DEC | .HLT | .INC | .JMP | .JSR | .LSR | .NOP | .PHA | .PHP | .PLP
  | .ROL | .ROR | .RTI | .RTS | .SAX | .SEC | .SED | .SEI | .SHX | .SHY | .STA | .STX | .STY | .TAS | .TXS => RegSet.empty

/-- `RegsRead(b)` for a row of mnemonic `mn` and mode `mode` (R105). -/
def regsRead (mn : Mnemonic) (mode : AddressingMode) : Option RegSet :=
  optRegs (RegSet.union (RegSet.union (dataRead mn) (accForm mn mode)) (indexReg mode))

/-- `RegsWritten(b)` for a row of mnemonic `mn` and mode `mode` (R105). -/
def regsWritten (mn : Mnemonic) (mode : AddressingMode) : Option RegSet :=
  optRegs (RegSet.union (dataWritten mn) (accForm mn mode))

end Sys2Proof.Machine
end

