-- ==== Sys2Proof/Machine/State.lean ====
section
/-!
DEFINITION. The machine's state, what it can stop with, and the state a run starts from.
-/

namespace Sys2Proof.Machine

/-- The buffer the caller supplies (20_memory.md R40): its length `L` and the bytes at 0 .. L-1. The bytes are
kept in one canonical form (`Memory.wf`): addresses strictly rising and below `length`, and no entry equal to what
an unlisted address reads as (log entry 7). -/
structure Memory where
  length : Nat
  cells : List Host.Cell
deriving DecidableEq, Repr

/-- The state of one decode core (10_state.md R20 to R23) together with the inputs its caller holds ready for the
next decode (R22; log entry 5). -/
structure State where
  /-- The caller's buffer; the block only reads it (R40). -/
  mem : Memory
  /-- The cursor: the index of the next opcode byte, an unbounded natural number (R21). -/
  cursor : Nat
  /-- The target address the caller passes to the next decode (R22). The block never changes it (R283). -/
  targetAddress : Word
  /-- The output latch: the record of the last completed decode, absent before the first (R23, R281). -/
  record : Option Record
deriving DecidableEq, Repr

/-- What stops the machine (60_exceptions.md R260: exactly one fault). -/
inductive Fault where
  /-- `DecodePrecondition`: a decode was started with `cursor >= L` (R261). Raised by `raiseDecodePrecondition`,
  which `step` and every meaning call; it records the offending cursor. The spec's own fault, so safe. -/
  | decodePrecondition (cursor : Nat)
deriving DecidableEq, Repr

/-- What the model refuses. -/
inductive Refusal where
  /-- Answered by `exec` for an instruction without a meaning; no arm does so. Safe. -/
  | notModelled (mnemonic : String)
  /-- Answered by the formatter, never by a step, for a record that `Decode` could not have
  produced (44_formatter.md R239, 92 D24, 93 U7). Safe: no text is invented. -/
  | formatOutsideDomain
deriving DecidableEq, Repr

/-- The state before the first decode (70_reset_and_hazards.md R280, R281): no record has been latched. The spec
gives the caller's inputs no value; the model starts from the empty buffer, cursor 0 and target address 0 (DESIGN
CHOICE, log entries 1, 2 and 3). -/
def State.reset : State :=
  { mem := { length := 0, cells := [] }, cursor := 0, targetAddress := 0, record := none }

end Sys2Proof.Machine
end

