-- ==== Sys2Proof/Machine/Ops.lean ====
section
/-!
DEFINITION. The named operations of the machine: the buffer's readers, what the caller may do to the buffer and the
inputs, raising the fault, fetching an instruction, and completing a decode.
-/

namespace Sys2Proof.Machine

/-! ### The buffer -/

/-- What an address without an entry reads as: zero (20_memory.md R41). -/
def Memory.unlisted : Byte := 0

/-- The entry at an address, or what an unlisted address reads as. -/
def lookupCell : List Host.Cell → Nat → Byte
  | [], _ => Memory.unlisted
  | (a, v) :: rest, i => if i = a then v else lookupCell rest i

/-- Sets the entry at an address, keeping the addresses rising and the unlisted value out. -/
def setCell (i : Nat) (v : Byte) : List Host.Cell → List Host.Cell
  | [] => if v = Memory.unlisted then [] else [(i, v)]
  | (a, x) :: rest =>
    if i < a then (if v = Memory.unlisted then (a, x) :: rest else (i, v) :: (a, x) :: rest)
    else if i = a then (if v = Memory.unlisted then rest else (i, v) :: rest)
    else (a, x) :: setCell i v rest

/-- Cells with strictly rising addresses in `lo .. len-1`, none holding the unlisted value. -/
def cellsWf (lo len : Nat) : List Host.Cell → Bool
  | [] => true
  | (a, v) :: rest => decide (lo ≤ a) && decide (a < len) && (v != Memory.unlisted) && cellsWf (a + 1) len rest

/-- The canonical form of the buffer. -/
def Memory.wf (m : Memory) : Bool := cellsWf 0 m.length m.cells

/-- `ReadByte(i)` (20_memory.md R41): the byte at `i`, widened to 16 bits; zero at `i >= L`; never fails. -/
def Memory.readByte (m : Memory) (i : Nat) : Word :=
  if i < m.length then zext16 (lookupCell m.cells i) else 0

/-- `ReadWordLE` (20_memory.md R42): the little-endian word at the cursor, and the cursor moved by one. -/
def Memory.readWordLE (m : Memory) (cursor : Nat) : Word × Nat :=
  (assembleWord (lowByte (m.readByte cursor)) (lowByte (m.readByte (cursor + 1))), cursor + 1)

/-- The opcode byte `buf[cursor]` (R43); it is read only where `cursor < L`. -/
def Memory.opcodeByte (m : Memory) (cursor : Nat) : Byte := lookupCell m.cells cursor

/-- The bytes that exist at `c`, `c+1`, …, at most `n` of them. -/
def Memory.bytesFrom (m : Memory) (c : Nat) : Nat → List Byte
  | 0 => []
  | n + 1 => if c < m.length then lookupCell m.cells c :: m.bytesFrom (c + 1) n else []

/-! ### The caller's side (10_state.md R22, 70_reset_and_hazards.md R282) -/

/-- The CALLER puts a byte into its buffer, which grows to hold it; bytes it skips over are zero (log entry 7).
No operation of the block calls this: the block has no memory write (00_scope.md R9). -/
def Memory.put (m : Memory) (i : Nat) (v : Byte) : Memory :=
  { length := max m.length (i + 1), cells := setCell i v m.cells }

/-- The caller puts bytes at `i`, `i+1`, …. -/
def Memory.place (m : Memory) (i : Nat) : List Byte → Memory
  | [] => m
  | v :: rest => (m.put i v).place (i + 1) rest

/-- The buffer that holds exactly these bytes. -/
def Memory.ofBytes (bytes : List Byte) : Memory := Memory.place { length := 0, cells := [] } 0 bytes

/-- The caller's request for a decode: it supplies the target address, the cursor and the buffer (R22, R282). -/
def State.request (s : State) (targetAddress : Word) (cursor : Nat) (mem : Memory) : State :=
  { s with mem := mem, cursor := cursor, targetAddress := targetAddress }

/-! ### The fault -/

/-- Raising `DecodePrecondition` (60_exceptions.md R261, R264): the outcome is the fault with the offending cursor;
nothing is saved, no record field and no cursor is written, and control goes to the caller. The block has no return
from it (R265): a faulted run is final. -/
def raiseDecodePrecondition (s : State) : Host.Outcome State Fault Refusal := .fault (.decodePrecondition s.cursor)

/-! ### Decode -/

/-- Fetching the instruction at the cursor: the opcode byte and the operand bytes that exist, a missing operand byte
being zero (40_decode.md R103). None where there is no opcode byte, `cursor >= L` (R43). -/
def fetchInstr (s : State) : Option Instr :=
  match decode (s.mem.bytesFrom s.cursor Config.maxInstrBytes) with
  | .ok (i, _) => some i
  | .error .noOpcodeByte => none

/-- The record that `Decode` builds from the row `(mn, mode, cycles)` of the byte `b` (40_decode.md R101). -/
def buildRecord (address : Word) (b : Byte) (mn : Mnemonic) (mode : AddressingMode) (cycles : Byte)
    (operand : Option Word) : Record :=
  { opcode := { mnemonic := mn, rawByte := b }
    addressingMode := mode
    address := address
    cycles := cycles
    operand := operand
    extraCycle := extraCycle mode
    registersRead := regsRead mn mode
    registersWritten := regsWritten mn mode
    affectedFlags := affectedFlags mn
    illegal := inIllegalSet b }

/-- A completed decode: the record is latched and the cursor moves to `c` (R101). -/
def State.complete (s : State) (r : Record) (c : Nat) : State := { s with cursor := c, record := some r }

/-- The shared operation `Decode` for the row `(mn, mode, cycles)` of the byte `b` and its operand: the fault is
tested first (R101, R263; log entry 9); then the record is latched and the cursor moves past the opcode byte and the
mode's operand bytes (R107). -/
def deliver (b : Byte) (mn : Mnemonic) (mode : AddressingMode) (cycles : Byte) (operand : Option Word) (s : State) :
    Host.Outcome State Fault Refusal :=
  if s.cursor < s.mem.length then
    .next (s.complete (buildRecord s.targetAddress b mn mode cycles operand) (s.cursor + 1 + operandCount mode))
  else raiseDecodePrecondition s

/-- `Decode` of a row of format F1: no operand (30_encoding.md R60, R61). -/
def deliverF1 (b : Byte) (mn : Mnemonic) (mode : AddressingMode) (cycles : Byte) (s : State) :
    Host.Outcome State Fault Refusal :=
  deliver b mn mode cycles none s

/-- `Decode` of a row of format F2: the operand is the zero-extended byte (R61, R62). -/
def deliverF2 (b : Byte) (mn : Mnemonic) (mode : AddressingMode) (cycles : Byte) (ll : Byte) (s : State) :
    Host.Outcome State Fault Refusal :=
  deliver b mn mode cycles (some (zext16 ll)) s

/-- `Decode` of a row of format F3: the operand is the little-endian word (R61, R62). -/
def deliverF3 (b : Byte) (mn : Mnemonic) (mode : AddressingMode) (cycles : Byte) (ll hh : Byte) (s : State) :
    Host.Outcome State Fault Refusal :=
  deliver b mn mode cycles (some (assembleWord ll hh)) s

/-- The 8-bit `cycles` value of the HLT rows (30_encoding.md R65, R70; 92 D3). -/
def hltCyclesByte : Byte := BitVec.ofNat 8 Config.hltCycles.val

end Sys2Proof.Machine
end

