-- ==== Sys2Proof/Machine/Arithmetic.lean ====
section
/-!
DEFINITION. The meanings of the additions and subtractions with carry ADC and SBC, the undocumented byte 0xEB among them.
Each is the shared operation `Decode` (40_decode.md R101) with the constants of its row.
-/

namespace Sys2Proof.Machine

/-! ### ADC (41_documented_a.md R130) -/

/-- `ADC` IndexedIndirectX, byte 0x61 (R130). -/
def execAdcIzx61 (ll : Byte) (s : State) : Host.Outcome State Fault Refusal :=
  deliverF2 0x61 .ADC .indexedIndirectX 6 ll s

/-- `ADC` Zeropage, byte 0x65 (R130). -/
def execAdcZp65 (ll : Byte) (s : State) : Host.Outcome State Fault Refusal :=
  deliverF2 0x65 .ADC .zeropage 3 ll s

/-- `ADC` Immediate, byte 0x69 (R130). -/
def execAdcImm69 (ll : Byte) (s : State) : Host.Outcome State Fault Refusal :=
  deliverF2 0x69 .ADC .immediate 2 ll s

/-- `ADC` Absolute, byte 0x6D (R130). -/
def execAdcAbs6D (ll hh : Byte) (s : State) : Host.Outcome State Fault Refusal :=
  deliverF3 0x6D .ADC .absolute 4 ll hh s

/-- `ADC` IndirectIndexedY(true), byte 0x71 (R130). -/
def execAdcIzy71 (ll : Byte) (s : State) : Host.Outcome State Fault Refusal :=
  deliverF2 0x71 .ADC (.indirectIndexedY true) 5 ll s

/-- `ADC` ZeropageIndexedX, byte 0x75 (R130). -/
def execAdcZpx75 (ll : Byte) (s : State) : Host.Outcome State Fault Refusal :=
  deliverF2 0x75 .ADC .zeropageIndexedX 4 ll s

/-- `ADC` AbsoluteIndexedY(true), byte 0x79 (R130). -/
def execAdcAby79 (ll hh : Byte) (s : State) : Host.Outcome State Fault Refusal :=
  deliverF3 0x79 .ADC (.absoluteIndexedY true) 4 ll hh s

/-- `ADC` AbsoluteIndexedX(true), byte 0x7D (R130). -/
def execAdcAbx7D (ll hh : Byte) (s : State) : Host.Outcome State Fault Refusal :=
  deliverF3 0x7D .ADC (.absoluteIndexedX true) 4 ll hh s

/-! ### SBC (42_documented_b.md R173) -/

/-- `SBC` IndexedIndirectX, byte 0xE1 (R173). -/
def execSbcIzxE1 (ll : Byte) (s : State) : Host.Outcome State Fault Refusal :=
  deliverF2 0xE1 .SBC .indexedIndirectX 6 ll s

/-- `SBC` Zeropage, byte 0xE5 (R173). -/
def execSbcZpE5 (ll : Byte) (s : State) : Host.Outcome State Fault Refusal :=
  deliverF2 0xE5 .SBC .zeropage 3 ll s

/-- `SBC` Immediate, byte 0xE9 (R173). -/
def execSbcImmE9 (ll : Byte) (s : State) : Host.Outcome State Fault Refusal :=
  deliverF2 0xE9 .SBC .immediate 2 ll s

/-- `SBC` Absolute, byte 0xED (R173). -/
def execSbcAbsED (ll hh : Byte) (s : State) : Host.Outcome State Fault Refusal :=
  deliverF3 0xED .SBC .absolute 4 ll hh s

/-- `SBC` IndirectIndexedY(true), byte 0xF1 (R173). -/
def execSbcIzyF1 (ll : Byte) (s : State) : Host.Outcome State Fault Refusal :=
  deliverF2 0xF1 .SBC (.indirectIndexedY true) 5 ll s

/-- `SBC` ZeropageIndexedX, byte 0xF5 (R173). -/
def execSbcZpxF5 (ll : Byte) (s : State) : Host.Outcome State Fault Refusal :=
  deliverF2 0xF5 .SBC .zeropageIndexedX 4 ll s

/-- `SBC` AbsoluteIndexedY(true), byte 0xF9 (R173). -/
def execSbcAbyF9 (ll hh : Byte) (s : State) : Host.Outcome State Fault Refusal :=
  deliverF3 0xF9 .SBC (.absoluteIndexedY true) 4 ll hh s

/-- `SBC` AbsoluteIndexedX(true), byte 0xFD (R173). -/
def execSbcAbxFD (ll hh : Byte) (s : State) : Host.Outcome State Fault Refusal :=
  deliverF3 0xFD .SBC (.absoluteIndexedX true) 4 ll hh s


/-! ### SBC (43_undocumented.md R220) -/

/-- `SBC` Immediate, byte 0xEB (R220). -/
def execSbcImmEB (ll : Byte) (s : State) : Host.Outcome State Fault Refusal :=
  deliverF2 0xEB .SBC .immediate 2 ll s

end Sys2Proof.Machine
end

