-- ==== Sys2Proof/Machine/Branch.lean ====
section
/-!
DEFINITION. The meanings of the eight conditional branches.
Each is the shared operation `Decode` (40_decode.md R101) with the constants of its row.
-/

namespace Sys2Proof.Machine

/-! ### BCC (41_documented_a.md R133) -/

/-- `BCC` Relative, byte 0x90 (R133). -/
def execBccRel90 (ll : Byte) (s : State) : Host.Outcome State Fault Refusal :=
  deliverF2 0x90 .BCC .relative 2 ll s

/-! ### BCS (41_documented_a.md R134) -/

/-- `BCS` Relative, byte 0xB0 (R134). -/
def execBcsRelB0 (ll : Byte) (s : State) : Host.Outcome State Fault Refusal :=
  deliverF2 0xB0 .BCS .relative 2 ll s

/-! ### BEQ (41_documented_a.md R135) -/

/-- `BEQ` Relative, byte 0xF0 (R135). -/
def execBeqRelF0 (ll : Byte) (s : State) : Host.Outcome State Fault Refusal :=
  deliverF2 0xF0 .BEQ .relative 2 ll s

/-! ### BMI (41_documented_a.md R137) -/

/-- `BMI` Relative, byte 0x30 (R137). -/
def execBmiRel30 (ll : Byte) (s : State) : Host.Outcome State Fault Refusal :=
  deliverF2 0x30 .BMI .relative 2 ll s

/-! ### BNE (41_documented_a.md R138) -/

/-- `BNE` Relative, byte 0xD0 (R138). -/
def execBneRelD0 (ll : Byte) (s : State) : Host.Outcome State Fault Refusal :=
  deliverF2 0xD0 .BNE .relative 2 ll s

/-! ### BPL (41_documented_a.md R139) -/

/-- `BPL` Relative, byte 0x10 (R139). -/
def execBplRel10 (ll : Byte) (s : State) : Host.Outcome State Fault Refusal :=
  deliverF2 0x10 .BPL .relative 2 ll s

/-! ### BVC (41_documented_a.md R141) -/

/-- `BVC` Relative, byte 0x50 (R141). -/
def execBvcRel50 (ll : Byte) (s : State) : Host.Outcome State Fault Refusal :=
  deliverF2 0x50 .BVC .relative 2 ll s

/-! ### BVS (41_documented_a.md R142) -/

/-- `BVS` Relative, byte 0x70 (R142). -/
def execBvsRel70 (ll : Byte) (s : State) : Host.Outcome State Fault Refusal :=
  deliverF2 0x70 .BVS .relative 2 ll s

end Sys2Proof.Machine
end

