-- ==== Sys2Proof/Machine/Compare.lean ====
section
/-!
DEFINITION. The meanings of the compares CMP, CPX and CPY.
Each is the shared operation `Decode` (40_decode.md R101) with the constants of its row.
-/

namespace Sys2Proof.Machine

/-! ### CMP (41_documented_a.md R147) -/

/-- `CMP` IndexedIndirectX, byte 0xC1 (R147). -/
def execCmpIzxC1 (ll : Byte) (s : State) : Host.Outcome State Fault Refusal :=
  deliverF2 0xC1 .CMP .indexedIndirectX 6 ll s

/-- `CMP` Zeropage, byte 0xC5 (R147). -/
def execCmpZpC5 (ll : Byte) (s : State) : Host.Outcome State Fault Refusal :=
  deliverF2 0xC5 .CMP .zeropage 3 ll s

/-- `CMP` Immediate, byte 0xC9 (R147). -/
def execCmpImmC9 (ll : Byte) (s : State) : Host.Outcome State Fault Refusal :=
  deliverF2 0xC9 .CMP .immediate 2 ll s

/-- `CMP` Absolute, byte 0xCD (R147). -/
def execCmpAbsCD (ll hh : Byte) (s : State) : Host.Outcome State Fault Refusal :=
  deliverF3 0xCD .CMP .absolute 4 ll hh s

/-- `CMP` IndirectIndexedY(true), byte 0xD1 (R147). -/
def execCmpIzyD1 (ll : Byte) (s : State) : Host.Outcome State Fault Refusal :=
  deliverF2 0xD1 .CMP (.indirectIndexedY true) 5 ll s

/-- `CMP` ZeropageIndexedX, byte 0xD5 (R147). -/
def execCmpZpxD5 (ll : Byte) (s : State) : Host.Outcome State Fault Refusal :=
  deliverF2 0xD5 .CMP .zeropageIndexedX 4 ll s

/-- `CMP` AbsoluteIndexedY(true), byte 0xD9 (R147). -/
def execCmpAbyD9 (ll hh : Byte) (s : State) : Host.Outcome State Fault Refusal :=
  deliverF3 0xD9 .CMP (.absoluteIndexedY true) 4 ll hh s

/-- `CMP` AbsoluteIndexedX(true), byte 0xDD (R147). -/
def execCmpAbxDD (ll hh : Byte) (s : State) : Host.Outcome State Fault Refusal :=
  deliverF3 0xDD .CMP (.absoluteIndexedX true) 4 ll hh s

/-! ### CPX (41_documented_a.md R148) -/

/-- `CPX` Immediate, byte 0xE0 (R148). -/
def execCpxImmE0 (ll : Byte) (s : State) : Host.Outcome State Fault Refusal :=
  deliverF2 0xE0 .CPX .immediate 2 ll s

/-- `CPX` Zeropage, byte 0xE4 (R148). -/
def execCpxZpE4 (ll : Byte) (s : State) : Host.Outcome State Fault Refusal :=
  deliverF2 0xE4 .CPX .zeropage 3 ll s

/-- `CPX` Absolute, byte 0xEC (R148). -/
def execCpxAbsEC (ll hh : Byte) (s : State) : Host.Outcome State Fault Refusal :=
  deliverF3 0xEC .CPX .absolute 4 ll hh s

/-! ### CPY (41_documented_a.md R149) -/

/-- `CPY` Immediate, byte 0xC0 (R149). -/
def execCpyImmC0 (ll : Byte) (s : State) : Host.Outcome State Fault Refusal :=
  deliverF2 0xC0 .CPY .immediate 2 ll s

/-- `CPY` Zeropage, byte 0xC4 (R149). -/
def execCpyZpC4 (ll : Byte) (s : State) : Host.Outcome State Fault Refusal :=
  deliverF2 0xC4 .CPY .zeropage 3 ll s

/-- `CPY` Absolute, byte 0xCC (R149). -/
def execCpyAbsCC (ll hh : Byte) (s : State) : Host.Outcome State Fault Refusal :=
  deliverF3 0xCC .CPY .absolute 4 ll hh s

end Sys2Proof.Machine
end

