-- ==== Sys2Proof/Machine/Control.lean ====
section
/-!
DEFINITION. The meanings of jumps, calls, returns and BRK.
Each is the shared operation `Decode` (40_decode.md R101) with the constants of its row.
-/

namespace Sys2Proof.Machine

/-! ### JMP (41_documented_a.md R157) -/

/-- `JMP` Absolute, byte 0x4C (R157). -/
def execJmpAbs4C (ll hh : Byte) (s : State) : Host.Outcome State Fault Refusal :=
  deliverF3 0x4C .JMP .absolute 3 ll hh s

/-- `JMP` Indirect, byte 0x6C (R157). -/
def execJmpInd6C (ll hh : Byte) (s : State) : Host.Outcome State Fault Refusal :=
  deliverF3 0x6C .JMP .indirect 5 ll hh s

/-! ### JSR (41_documented_a.md R158) -/

/-- `JSR` Absolute, byte 0x20 (R158). -/
def execJsrAbs20 (ll hh : Byte) (s : State) : Host.Outcome State Fault Refusal :=
  deliverF3 0x20 .JSR .absolute 6 ll hh s

/-! ### RTS (42_documented_b.md R172) -/

/-- `RTS` Implied, byte 0x60 (R172). -/
def execRtsImp60 (s : State) : Host.Outcome State Fault Refusal :=
  deliverF1 0x60 .RTS .implied 6 s

/-! ### RTI (42_documented_b.md R171) -/

/-- `RTI` Implied, byte 0x40 (R171). -/
def execRtiImp40 (s : State) : Host.Outcome State Fault Refusal :=
  deliverF1 0x40 .RTI .implied 6 s

/-! ### BRK (41_documented_a.md R140) -/

/-- `BRK` Implied, byte 0x00 (R140). -/
def execBrkImp00 (s : State) : Host.Outcome State Fault Refusal :=
  deliverF1 0x00 .BRK .implied 7 s

end Sys2Proof.Machine
end

