-- ==== Sys2Proof/Machine/FlagOps.lean ====
section
/-!
DEFINITION. The meanings of the flag set and clear instructions.
Each is the shared operation `Decode` (40_decode.md R101) with the constants of its row.
-/

namespace Sys2Proof.Machine

/-! ### CLC (41_documented_a.md R143) -/

/-- `CLC` Implied, byte 0x18 (R143). -/
def execClcImp18 (s : State) : Host.Outcome State Fault Refusal :=
  deliverF1 0x18 .CLC .implied 2 s

/-! ### CLD (41_documented_a.md R144) -/

/-- `CLD` Implied, byte 0xD8 (R144). -/
def execCldImpD8 (s : State) : Host.Outcome State Fault Refusal :=
  deliverF1 0xD8 .CLD .implied 2 s

/-! ### CLI (41_documented_a.md R145) -/

/-- `CLI` Implied, byte 0x58 (R145). -/
def execCliImp58 (s : State) : Host.Outcome State Fault Refusal :=
  deliverF1 0x58 .CLI .implied 2 s

/-! ### CLV (41_documented_a.md R146) -/

/-- `CLV` Implied, byte 0xB8 (R146). -/
def execClvImpB8 (s : State) : Host.Outcome State Fault Refusal :=
  deliverF1 0xB8 .CLV .implied 2 s

/-! ### SEC (42_documented_b.md R174) -/

/-- `SEC` Implied, byte 0x38 (R174). -/
def execSecImp38 (s : State) : Host.Outcome State Fault Refusal :=
  deliverF1 0x38 .SEC .implied 2 s

/-! ### SED (42_documented_b.md R175) -/

/-- `SED` Implied, byte 0xF8 (R175). -/
def execSedImpF8 (s : State) : Host.Outcome State Fault Refusal :=
  deliverF1 0xF8 .SED .implied 2 s

/-! ### SEI (42_documented_b.md R176) -/

/-- `SEI` Implied, byte 0x78 (R176). -/
def execSeiImp78 (s : State) : Host.Outcome State Fault Refusal :=
  deliverF1 0x78 .SEI .implied 2 s

end Sys2Proof.Machine
end

