-- ==== Sys2Proof/Machine/IncDec.lean ====
section
/-!
DEFINITION. The meanings of the increments and decrements.
Each is the shared operation `Decode` (40_decode.md R101) with the constants of its row.
-/

namespace Sys2Proof.Machine

/-! ### INC (41_documented_a.md R154) -/

/-- `INC` Zeropage, byte 0xE6 (R154). -/
def execIncZpE6 (ll : Byte) (s : State) : Host.Outcome State Fault Refusal :=
  deliverF2 0xE6 .INC .zeropage 5 ll s

/-- `INC` Absolute, byte 0xEE (R154). -/
def execIncAbsEE (ll hh : Byte) (s : State) : Host.Outcome State Fault Refusal :=
  deliverF3 0xEE .INC .absolute 6 ll hh s

/-- `INC` ZeropageIndexedX, byte 0xF6 (R154). -/
def execIncZpxF6 (ll : Byte) (s : State) : Host.Outcome State Fault Refusal :=
  deliverF2 0xF6 .INC .zeropageIndexedX 6 ll s

/-- `INC` AbsoluteIndexedX(false), byte 0xFE (R154). -/
def execIncAbxFE (ll hh : Byte) (s : State) : Host.Outcome State Fault Refusal :=
  deliverF3 0xFE .INC (.absoluteIndexedX false) 7 ll hh s

/-! ### INX (41_documented_a.md R155) -/

/-- `INX` Implied, byte 0xE8 (R155). -/
def execInxImpE8 (s : State) : Host.Outcome State Fault Refusal :=
  deliverF1 0xE8 .INX .implied 2 s

/-! ### INY (41_documented_a.md R156) -/

/-- `INY` Implied, byte 0xC8 (R156). -/
def execInyImpC8 (s : State) : Host.Outcome State Fault Refusal :=
  deliverF1 0xC8 .INY .implied 2 s

/-! ### DEC (41_documented_a.md R150) -/

/-- `DEC` Zeropage, byte 0xC6 (R150). -/
def execDecZpC6 (ll : Byte) (s : State) : Host.Outcome State Fault Refusal :=
  deliverF2 0xC6 .DEC .zeropage 5 ll s

/-- `DEC` Absolute, byte 0xCE (R150). -/
def execDecAbsCE (ll hh : Byte) (s : State) : Host.Outcome State Fault Refusal :=
  deliverF3 0xCE .DEC .absolute 6 ll hh s

/-- `DEC` ZeropageIndexedX, byte 0xD6 (R150). -/
def execDecZpxD6 (ll : Byte) (s : State) : Host.Outcome State Fault Refusal :=
  deliverF2 0xD6 .DEC .zeropageIndexedX 6 ll s

/-- `DEC` AbsoluteIndexedX(false), byte 0xDE (R150). -/
def execDecAbxDE (ll hh : Byte) (s : State) : Host.Outcome State Fault Refusal :=
  deliverF3 0xDE .DEC (.absoluteIndexedX false) 7 ll hh s

/-! ### DEX (41_documented_a.md R151) -/

/-- `DEX` Implied, byte 0xCA (R151). -/
def execDexImpCA (s : State) : Host.Outcome State Fault Refusal :=
  deliverF1 0xCA .DEX .implied 2 s

/-! ### DEY (41_documented_a.md R152) -/

/-- `DEY` Implied, byte 0x88 (R152). -/
def execDeyImp88 (s : State) : Host.Outcome State Fault Refusal :=
  deliverF1 0x88 .DEY .implied 2 s

end Sys2Proof.Machine
end

