-- ==== Sys2Proof/Machine/LoadStore.lean ====
section
/-!
DEFINITION. The meanings of the loads and stores LDA, LDX, LDY, STA, STX and STY.
Each is the shared operation `Decode` (40_decode.md R101) with the constants of its row.
-/

namespace Sys2Proof.Machine

/-! ### LDA (42_documented_b.md R159) -/

/-- `LDA` IndexedIndirectX, byte 0xA1 (R159). -/
def execLdaIzxA1 (ll : Byte) (s : State) : Host.Outcome State Fault Refusal :=
  deliverF2 0xA1 .LDA .indexedIndirectX 6 ll s

/-- `LDA` Zeropage, byte 0xA5 (R159). -/
def execLdaZpA5 (ll : Byte) (s : State) : Host.Outcome State Fault Refusal :=
  deliverF2 0xA5 .LDA .zeropage 3 ll s

/-- `LDA` Immediate, byte 0xA9 (R159). -/
def execLdaImmA9 (ll : Byte) (s : State) : Host.Outcome State Fault Refusal :=
  deliverF2 0xA9 .LDA .immediate 2 ll s

/-- `LDA` Absolute, byte 0xAD (R159). -/
def execLdaAbsAD (ll hh : Byte) (s : State) : Host.Outcome State Fault Refusal :=
  deliverF3 0xAD .LDA .absolute 4 ll hh s

/-- `LDA` IndirectIndexedY(true), byte 0xB1 (R159). -/
def execLdaIzyB1 (ll : Byte) (s : State) : Host.Outcome State Fault Refusal :=
  deliverF2 0xB1 .LDA (.indirectIndexedY true) 5 ll s

/-- `LDA` ZeropageIndexedX, byte 0xB5 (R159). -/
def execLdaZpxB5 (ll : Byte) (s : State) : Host.Outcome State Fault Refusal :=
  deliverF2 0xB5 .LDA .zeropageIndexedX 4 ll s

/-- `LDA` AbsoluteIndexedY(true), byte 0xB9 (R159). -/
def execLdaAbyB9 (ll hh : Byte) (s : State) : Host.Outcome State Fault Refusal :=
  deliverF3 0xB9 .LDA (.absoluteIndexedY true) 4 ll hh s

/-- `LDA` AbsoluteIndexedX(true), byte 0xBD (R159). -/
def execLdaAbxBD (ll hh : Byte) (s : State) : Host.Outcome State Fault Refusal :=
  deliverF3 0xBD .LDA (.absoluteIndexedX true) 4 ll hh s

/-! ### LDX (42_documented_b.md R160) -/

/-- `LDX` Immediate, byte 0xA2 (R160). -/
def execLdxImmA2 (ll : Byte) (s : State) : Host.Outcome State Fault Refusal :=
  deliverF2 0xA2 .LDX .immediate 2 ll s

/-- `LDX` Zeropage, byte 0xA6 (R160). -/
def execLdxZpA6 (ll : Byte) (s : State) : Host.Outcome State Fault Refusal :=
  deliverF2 0xA6 .LDX .zeropage 3 ll s

/-- `LDX` Absolute, byte 0xAE (R160). -/
def execLdxAbsAE (ll hh : Byte) (s : State) : Host.Outcome State Fault Refusal :=
  deliverF3 0xAE .LDX .absolute 4 ll hh s

/-- `LDX` ZeropageIndexedY, byte 0xB6 (R160). -/
def execLdxZpyB6 (ll : Byte) (s : State) : Host.Outcome State Fault Refusal :=
  deliverF2 0xB6 .LDX .zeropageIndexedY 4 ll s

/-- `LDX` AbsoluteIndexedY(true), byte 0xBE (R160). -/
def execLdxAbyBE (ll hh : Byte) (s : State) : Host.Outcome State Fault Refusal :=
  deliverF3 0xBE .LDX (.absoluteIndexedY true) 4 ll hh s

/-! ### LDY (42_documented_b.md R161) -/

/-- `LDY` Immediate, byte 0xA0 (R161). -/
def execLdyImmA0 (ll : Byte) (s : State) : Host.Outcome State Fault Refusal :=
  deliverF2 0xA0 .LDY .immediate 2 ll s

/-- `LDY` Zeropage, byte 0xA4 (R161). -/
def execLdyZpA4 (ll : Byte) (s : State) : Host.Outcome State Fault Refusal :=
  deliverF2 0xA4 .LDY .zeropage 3 ll s

/-- `LDY` Absolute, byte 0xAC (R161). -/
def execLdyAbsAC (ll hh : Byte) (s : State) : Host.Outcome State Fault Refusal :=
  deliverF3 0xAC .LDY .absolute 4 ll hh s

/-- `LDY` ZeropageIndexedX, byte 0xB4 (R161). -/
def execLdyZpxB4 (ll : Byte) (s : State) : Host.Outcome State Fault Refusal :=
  deliverF2 0xB4 .LDY .zeropageIndexedX 4 ll s

/-- `LDY` AbsoluteIndexedX(true), byte 0xBC (R161). -/
def execLdyAbxBC (ll hh : Byte) (s : State) : Host.Outcome State Fault Refusal :=
  deliverF3 0xBC .LDY (.absoluteIndexedX true) 4 ll hh s

/-! ### STA (42_documented_b.md R177) -/

/-- `STA` IndexedIndirectX, byte 0x81 (R177). -/
def execStaIzx81 (ll : Byte) (s : State) : Host.Outcome State Fault Refusal :=
  deliverF2 0x81 .STA .indexedIndirectX 6 ll s

/-- `STA` Zeropage, byte 0x85 (R177). -/
def execStaZp85 (ll : Byte) (s : State) : Host.Outcome State Fault Refusal :=
  deliverF2 0x85 .STA .zeropage 3 ll s

/-- `STA` Absolute, byte 0x8D (R177). -/
def execStaAbs8D (ll hh : Byte) (s : State) : Host.Outcome State Fault Refusal :=
  deliverF3 0x8D .STA .absolute 4 ll hh s

/-- `STA` IndirectIndexedY(false), byte 0x91 (R177). -/
def execStaIzy91 (ll : Byte) (s : State) : Host.Outcome State Fault Refusal :=
  deliverF2 0x91 .STA (.indirectIndexedY false) 6 ll s

/-- `STA` ZeropageIndexedX, byte 0x95 (R177). -/
def execStaZpx95 (ll : Byte) (s : State) : Host.Outcome State Fault Refusal :=
  deliverF2 0x95 .STA .zeropageIndexedX 4 ll s

/-- `STA` AbsoluteIndexedY(false), byte 0x99 (R177). -/
def execStaAby99 (ll hh : Byte) (s : State) : Host.Outcome State Fault Refusal :=
  deliverF3 0x99 .STA (.absoluteIndexedY false) 5 ll hh s

/-- `STA` AbsoluteIndexedX(false), byte 0x9D (R177). -/
def execStaAbx9D (ll hh : Byte) (s : State) : Host.Outcome State Fault Refusal :=
  deliverF3 0x9D .STA (.absoluteIndexedX false) 5 ll hh s

/-! ### STX (42_documented_b.md R178) -/

/-- `STX` Zeropage, byte 0x86 (R178). -/
def execStxZp86 (ll : Byte) (s : State) : Host.Outcome State Fault Refusal :=
  deliverF2 0x86 .STX .zeropage 3 ll s

/-- `STX` Absolute, byte 0x8E (R178). -/
def execStxAbs8E (ll hh : Byte) (s : State) : Host.Outcome State Fault Refusal :=
  deliverF3 0x8E .STX .absolute 4 ll hh s

/-- `STX` ZeropageIndexedY, byte 0x96 (R178). -/
def execStxZpy96 (ll : Byte) (s : State) : Host.Outcome State Fault Refusal :=
  deliverF2 0x96 .STX .zeropageIndexedY 4 ll s

/-! ### STY (42_documented_b.md R179) -/

/-- `STY` Zeropage, byte 0x84 (R179). -/
def execStyZp84 (ll : Byte) (s : State) : Host.Outcome State Fault Refusal :=
  deliverF2 0x84 .STY .zeropage 3 ll s

/-- `STY` Absolute, byte 0x8C (R179). -/
def execStyAbs8C (ll hh : Byte) (s : State) : Host.Outcome State Fault Refusal :=
  deliverF3 0x8C .STY .absolute 4 ll hh s

/-- `STY` ZeropageIndexedX, byte 0x94 (R179). -/
def execStyZpx94 (ll : Byte) (s : State) : Host.Outcome State Fault Refusal :=
  deliverF2 0x94 .STY .zeropageIndexedX 4 ll s

end Sys2Proof.Machine
end

