-- ==== Sys2Proof/Machine/Logic.lean ====
section
/-!
DEFINITION. The meanings of the logical instructions AND, ORA, EOR and BIT.
Each is the shared operation `Decode` (40_decode.md R101) with the constants of its row.
-/

namespace Sys2Proof.Machine

/-! ### AND (41_documented_a.md R131) -/

/-- `AND` IndexedIndirectX, byte 0x21 (R131). -/
def execAndIzx21 (ll : Byte) (s : State) : Host.Outcome State Fault Refusal :=
  deliverF2 0x21 .AND .indexedIndirectX 6 ll s

/-- `AND` Zeropage, byte 0x25 (R131). -/
def execAndZp25 (ll : Byte) (s : State) : Host.Outcome State Fault Refusal :=
  deliverF2 0x25 .AND .zeropage 3 ll s

/-- `AND` Immediate, byte 0x29 (R131). -/
def execAndImm29 (ll : Byte) (s : State) : Host.Outcome State Fault Refusal :=
  deliverF2 0x29 .AND .immediate 2 ll s

/-- `AND` Absolute, byte 0x2D (R131). -/
def execAndAbs2D (ll hh : Byte) (s : State) : Host.Outcome State Fault Refusal :=
  deliverF3 0x2D .AND .absolute 4 ll hh s

/-- `AND` IndirectIndexedY(true), byte 0x31 (R131). -/
def execAndIzy31 (ll : Byte) (s : State) : Host.Outcome State Fault Refusal :=
  deliverF2 0x31 .AND (.indirectIndexedY true) 5 ll s

/-- `AND` ZeropageIndexedX, byte 0x35 (R131). -/
def execAndZpx35 (ll : Byte) (s : State) : Host.Outcome State Fault Refusal :=
  deliverF2 0x35 .AND .zeropageIndexedX 4 ll s

/-- `AND` AbsoluteIndexedY(true), byte 0x39 (R131). -/
def execAndAby39 (ll hh : Byte) (s : State) : Host.Outcome State Fault Refusal :=
  deliverF3 0x39 .AND (.absoluteIndexedY true) 4 ll hh s

/-- `AND` AbsoluteIndexedX(true), byte 0x3D (R131). -/
def execAndAbx3D (ll hh : Byte) (s : State) : Host.Outcome State Fault Refusal :=
  deliverF3 0x3D .AND (.absoluteIndexedX true) 4 ll hh s

/-! ### ORA (42_documented_b.md R164) -/

/-- `ORA` IndexedIndirectX, byte 0x01 (R164). -/
def execOraIzx01 (ll : Byte) (s : State) : Host.Outcome State Fault Refusal :=
  deliverF2 0x01 .ORA .indexedIndirectX 6 ll s

/-- `ORA` Zeropage, byte 0x05 (R164). -/
def execOraZp05 (ll : Byte) (s : State) : Host.Outcome State Fault Refusal :=
  deliverF2 0x05 .ORA .zeropage 3 ll s

/-- `ORA` Immediate, byte 0x09 (R164). -/
def execOraImm09 (ll : Byte) (s : State) : Host.Outcome State Fault Refusal :=
  deliverF2 0x09 .ORA .immediate 2 ll s

/-- `ORA` Absolute, byte 0x0D (R164). -/
def execOraAbs0D (ll hh : Byte) (s : State) : Host.Outcome State Fault Refusal :=
  deliverF3 0x0D .ORA .absolute 4 ll hh s

/-- `ORA` IndirectIndexedY(true), byte 0x11 (R164). -/
def execOraIzy11 (ll : Byte) (s : State) : Host.Outcome State Fault Refusal :=
  deliverF2 0x11 .ORA (.indirectIndexedY true) 5 ll s

/-- `ORA` ZeropageIndexedX, byte 0x15 (R164). -/
def execOraZpx15 (ll : Byte) (s : State) : Host.Outcome State Fault Refusal :=
  deliverF2 0x15 .ORA .zeropageIndexedX 4 ll s

/-- `ORA` AbsoluteIndexedY(true), byte 0x19 (R164). -/
def execOraAby19 (ll hh : Byte) (s : State) : Host.Outcome State Fault Refusal :=
  deliverF3 0x19 .ORA (.absoluteIndexedY true) 4 ll hh s

/-- `ORA` AbsoluteIndexedX(true), byte 0x1D (R164). -/
def execOraAbx1D (ll hh : Byte) (s : State) : Host.Outcome State Fault Refusal :=
  deliverF3 0x1D .ORA (.absoluteIndexedX true) 4 ll hh s

/-! ### EOR (41_documented_a.md R153) -/

/-- `EOR` IndexedIndirectX, byte 0x41 (R153). -/
def execEorIzx41 (ll : Byte) (s : State) : Host.Outcome State Fault Refusal :=
  deliverF2 0x41 .EOR .indexedIndirectX 6 ll s

/-- `EOR` Zeropage, byte 0x45 (R153). -/
def execEorZp45 (ll : Byte) (s : State) : Host.Outcome State Fault Refusal :=
  deliverF2 0x45 .EOR .zeropage 3 ll s

/-- `EOR` Immediate, byte 0x49 (R153). -/
def execEorImm49 (ll : Byte) (s : State) : Host.Outcome State Fault Refusal :=
  deliverF2 0x49 .EOR .immediate 2 ll s

/-- `EOR` Absolute, byte 0x4D (R153). -/
def execEorAbs4D (ll hh : Byte) (s : State) : Host.Outcome State Fault Refusal :=
  deliverF3 0x4D .EOR .absolute 4 ll hh s

/-- `EOR` IndirectIndexedY(true), byte 0x51 (R153). -/
def execEorIzy51 (ll : Byte) (s : State) : Host.Outcome State Fault Refusal :=
  deliverF2 0x51 .EOR (.indirectIndexedY true) 5 ll s

/-- `EOR` ZeropageIndexedX, byte 0x55 (R153). -/
def execEorZpx55 (ll : Byte) (s : State) : Host.Outcome State Fault Refusal :=
  deliverF2 0x55 .EOR .zeropageIndexedX 4 ll s

/-- `EOR` AbsoluteIndexedY(true), byte 0x59 (R153). -/
def execEorAby59 (ll hh : Byte) (s : State) : Host.Outcome State Fault Refusal :=
  deliverF3 0x59 .EOR (.absoluteIndexedY true) 4 ll hh s

/-- `EOR` AbsoluteIndexedX(true), byte 0x5D (R153). -/
def execEorAbx5D (ll hh : Byte) (s : State) : Host.Outcome State Fault Refusal :=
  deliverF3 0x5D .EOR (.absoluteIndexedX true) 4 ll hh s

/-! ### BIT (41_documented_a.md R136) -/

/-- `BIT` Zeropage, byte 0x24 (R136). -/
def execBitZp24 (ll : Byte) (s : State) : Host.Outcome State Fault Refusal :=
  deliverF2 0x24 .BIT .zeropage 3 ll s

/-- `BIT` Absolute, byte 0x2C (R136). -/
def execBitAbs2C (ll hh : Byte) (s : State) : Host.Outcome State Fault Refusal :=
  deliverF3 0x2C .BIT .absolute 4 ll hh s

end Sys2Proof.Machine
end

