-- ==== Sys2Proof/Machine/Nop.lean ====
section
/-!
DEFINITION. The meanings of NOP: the documented byte 0xEA and the 27 undocumented bytes.
Each is the shared operation `Decode` (40_decode.md R101) with the constants of its row.
-/

namespace Sys2Proof.Machine

/-! ### NOP (42_documented_b.md R163) -/

/-- `NOP` Implied, byte 0xEA (R163). -/
def execNopImpEA (s : State) : Host.Outcome State Fault Refusal :=
  deliverF1 0xEA .NOP .implied 2 s


/-! ### NOP (43_undocumented.md R219) -/

/-- `NOP` Zeropage, byte 0x04 (R219). -/
def execNopZp04 (ll : Byte) (s : State) : Host.Outcome State Fault Refusal :=
  deliverF2 0x04 .NOP .zeropage 3 ll s

/-- `NOP` Absolute, byte 0x0C (R219). -/
def execNopAbs0C (ll hh : Byte) (s : State) : Host.Outcome State Fault Refusal :=
  deliverF3 0x0C .NOP .absolute 4 ll hh s

/-- `NOP` ZeropageIndexedX, byte 0x14 (R219). -/
def execNopZpx14 (ll : Byte) (s : State) : Host.Outcome State Fault Refusal :=
  deliverF2 0x14 .NOP .zeropageIndexedX 4 ll s

/-- `NOP` Implied, byte 0x1A (R219). -/
def execNopImp1A (s : State) : Host.Outcome State Fault Refusal :=
  deliverF1 0x1A .NOP .implied 2 s

/-- `NOP` AbsoluteIndexedX(true), byte 0x1C (R219). -/
def execNopAbx1C (ll hh : Byte) (s : State) : Host.Outcome State Fault Refusal :=
  deliverF3 0x1C .NOP (.absoluteIndexedX true) 4 ll hh s

/-- `NOP` ZeropageIndexedX, byte 0x34 (R219). -/
def execNopZpx34 (ll : Byte) (s : State) : Host.Outcome State Fault Refusal :=
  deliverF2 0x34 .NOP .zeropageIndexedX 4 ll s

/-- `NOP` Implied, byte 0x3A (R219). -/
def execNopImp3A (s : State) : Host.Outcome State Fault Refusal :=
  deliverF1 0x3A .NOP .implied 2 s

/-- `NOP` AbsoluteIndexedX(true), byte 0x3C (R219). -/
def execNopAbx3C (ll hh : Byte) (s : State) : Host.Outcome State Fault Refusal :=
  deliverF3 0x3C .NOP (.absoluteIndexedX true) 4 ll hh s

/-- `NOP` Zeropage, byte 0x44 (R219). -/
def execNopZp44 (ll : Byte) (s : State) : Host.Outcome State Fault Refusal :=
  deliverF2 0x44 .NOP .zeropage 3 ll s

/-- `NOP` ZeropageIndexedX, byte 0x54 (R219). -/
def execNopZpx54 (ll : Byte) (s : State) : Host.Outcome State Fault Refusal :=
  deliverF2 0x54 .NOP .zeropageIndexedX 4 ll s

/-- `NOP` Implied, byte 0x5A (R219). -/
def execNopImp5A (s : State) : Host.Outcome State Fault Refusal :=
  deliverF1 0x5A .NOP .implied 2 s

/-- `NOP` AbsoluteIndexedX(true), byte 0x5C (R219). -/
def execNopAbx5C (ll hh : Byte) (s : State) : Host.Outcome State Fault Refusal :=
  deliverF3 0x5C .NOP (.absoluteIndexedX true) 4 ll hh s

/-- `NOP` Zeropage, byte 0x64 (R219). -/
def execNopZp64 (ll : Byte) (s : State) : Host.Outcome State Fault Refusal :=
  deliverF2 0x64 .NOP .zeropage 3 ll s

/-- `NOP` ZeropageIndexedX, byte 0x74 (R219). -/
def execNopZpx74 (ll : Byte) (s : State) : Host.Outcome State Fault Refusal :=
  deliverF2 0x74 .NOP .zeropageIndexedX 4 ll s

/-- `NOP` Implied, byte 0x7A (R219). -/
def execNopImp7A (s : State) : Host.Outcome State Fault Refusal :=
  deliverF1 0x7A .NOP .implied 2 s

/-- `NOP` AbsoluteIndexedX(true), byte 0x7C (R219). -/
def execNopAbx7C (ll hh : Byte) (s : State) : Host.Outcome State Fault Refusal :=
  deliverF3 0x7C .NOP (.absoluteIndexedX true) 4 ll hh s

/-- `NOP` Immediate, byte 0x80 (R219). -/
def execNopImm80 (ll : Byte) (s : State) : Host.Outcome State Fault Refusal :=
  deliverF2 0x80 .NOP .immediate 2 ll s

/-- `NOP` Immediate, byte 0x82 (R219). -/
def execNopImm82 (ll : Byte) (s : State) : Host.Outcome State Fault Refusal :=
  deliverF2 0x82 .NOP .immediate 2 ll s

/-- `NOP` Immediate, byte 0x89 (R219). -/
def execNopImm89 (ll : Byte) (s : State) : Host.Outcome State Fault Refusal :=
  deliverF2 0x89 .NOP .immediate 2 ll s

/-- `NOP` Immediate, byte 0xC2 (R219). -/
def execNopImmC2 (ll : Byte) (s : State) : Host.Outcome State Fault Refusal :=
  deliverF2 0xC2 .NOP .immediate 2 ll s

/-- `NOP` ZeropageIndexedX, byte 0xD4 (R219). -/
def execNopZpxD4 (ll : Byte) (s : State) : Host.Outcome State Fault Refusal :=
  deliverF2 0xD4 .NOP .zeropageIndexedX 4 ll s

/-- `NOP` Implied, byte 0xDA (R219). -/
def execNopImpDA (s : State) : Host.Outcome State Fault Refusal :=
  deliverF1 0xDA .NOP .implied 2 s

/-- `NOP` AbsoluteIndexedX(true), byte 0xDC (R219). -/
def execNopAbxDC (ll hh : Byte) (s : State) : Host.Outcome State Fault Refusal :=
  deliverF3 0xDC .NOP (.absoluteIndexedX true) 4 ll hh s

/-- `NOP` Immediate, byte 0xE2 (R219). -/
def execNopImmE2 (ll : Byte) (s : State) : Host.Outcome State Fault Refusal :=
  deliverF2 0xE2 .NOP .immediate 2 ll s

/-- `NOP` ZeropageIndexedX, byte 0xF4 (R219). -/
def execNopZpxF4 (ll : Byte) (s : State) : Host.Outcome State Fault Refusal :=
  deliverF2 0xF4 .NOP .zeropageIndexedX 4 ll s

/-- `NOP` Implied, byte 0xFA (R219). -/
def execNopImpFA (s : State) : Host.Outcome State Fault Refusal :=
  deliverF1 0xFA .NOP .implied 2 s

/-- `NOP` AbsoluteIndexedX(true), byte 0xFC (R219). -/
def execNopAbxFC (ll hh : Byte) (s : State) : Host.Outcome State Fault Refusal :=
  deliverF3 0xFC .NOP (.absoluteIndexedX true) 4 ll hh s

end Sys2Proof.Machine
end

