-- ==== Sys2Proof/Machine/Shift.lean ====
section
/-!
DEFINITION. The meanings of the shifts and rotates ASL, LSR, ROL and ROR.
Each is the shared operation `Decode` (40_decode.md R101) with the constants of its row.
-/

namespace Sys2Proof.Machine

/-! ### ASL (41_documented_a.md R132) -/

/-- `ASL` Zeropage, byte 0x06 (R132). -/
def execAslZp06 (ll : Byte) (s : State) : Host.Outcome State Fault Refusal :=
  deliverF2 0x06 .ASL .zeropage 5 ll s

/-- `ASL` Accumulator, byte 0x0A (R132). -/
def execAslAcc0A (s : State) : Host.Outcome State Fault Refusal :=
  deliverF1 0x0A .ASL .accumulator 2 s

/-- `ASL` Absolute, byte 0x0E (R132). -/
def execAslAbs0E (ll hh : Byte) (s : State) : Host.Outcome State Fault Refusal :=
  deliverF3 0x0E .ASL .absolute 6 ll hh s

/-- `ASL` ZeropageIndexedX, byte 0x16 (R132). -/
def execAslZpx16 (ll : Byte) (s : State) : Host.Outcome State Fault Refusal :=
  deliverF2 0x16 .ASL .zeropageIndexedX 6 ll s

/-- `ASL` AbsoluteIndexedX(false), byte 0x1E (R132). -/
def execAslAbx1E (ll hh : Byte) (s : State) : Host.Outcome State Fault Refusal :=
  deliverF3 0x1E .ASL (.absoluteIndexedX false) 7 ll hh s

/-! ### LSR (42_documented_b.md R162) -/

/-- `LSR` Zeropage, byte 0x46 (R162). -/
def execLsrZp46 (ll : Byte) (s : State) : Host.Outcome State Fault Refusal :=
  deliverF2 0x46 .LSR .zeropage 5 ll s

/-- `LSR` Accumulator, byte 0x4A (R162). -/
def execLsrAcc4A (s : State) : Host.Outcome State Fault Refusal :=
  deliverF1 0x4A .LSR .accumulator 2 s

/-- `LSR` Absolute, byte 0x4E (R162). -/
def execLsrAbs4E (ll hh : Byte) (s : State) : Host.Outcome State Fault Refusal :=
  deliverF3 0x4E .LSR .absolute 6 ll hh s

/-- `LSR` ZeropageIndexedX, byte 0x56 (R162). -/
def execLsrZpx56 (ll : Byte) (s : State) : Host.Outcome State Fault Refusal :=
  deliverF2 0x56 .LSR .zeropageIndexedX 6 ll s

/-- `LSR` AbsoluteIndexedX(false), byte 0x5E (R162). -/
def execLsrAbx5E (ll hh : Byte) (s : State) : Host.Outcome State Fault Refusal :=
  deliverF3 0x5E .LSR (.absoluteIndexedX false) 7 ll hh s

/-! ### ROL (42_documented_b.md R169) -/

/-- `ROL` Zeropage, byte 0x26 (R169). -/
def execRolZp26 (ll : Byte) (s : State) : Host.Outcome State Fault Refusal :=
  deliverF2 0x26 .ROL .zeropage 5 ll s

/-- `ROL` Accumulator, byte 0x2A (R169). -/
def execRolAcc2A (s : State) : Host.Outcome State Fault Refusal :=
  deliverF1 0x2A .ROL .accumulator 2 s

/-- `ROL` Absolute, byte 0x2E (R169). -/
def execRolAbs2E (ll hh : Byte) (s : State) : Host.Outcome State Fault Refusal :=
  deliverF3 0x2E .ROL .absolute 6 ll hh s

/-- `ROL` ZeropageIndexedX, byte 0x36 (R169). -/
def execRolZpx36 (ll : Byte) (s : State) : Host.Outcome State Fault Refusal :=
  deliverF2 0x36 .ROL .zeropageIndexedX 6 ll s

/-- `ROL` AbsoluteIndexedX(false), byte 0x3E (R169). -/
def execRolAbx3E (ll hh : Byte) (s : State) : Host.Outcome State Fault Refusal :=
  deliverF3 0x3E .ROL (.absoluteIndexedX false) 7 ll hh s

/-! ### ROR (42_documented_b.md R170) -/

/-- `ROR` Zeropage, byte 0x66 (R170). -/
def execRorZp66 (ll : Byte) (s : State) : Host.Outcome State Fault Refusal :=
  deliverF2 0x66 .ROR .zeropage 5 ll s

/-- `ROR` Accumulator, byte 0x6A (R170). -/
def execRorAcc6A (s : State) : Host.Outcome State Fault Refusal :=
  deliverF1 0x6A .ROR .accumulator 2 s

/-- `ROR` Absolute, byte 0x6E (R170). -/
def execRorAbs6E (ll hh : Byte) (s : State) : Host.Outcome State Fault Refusal :=
  deliverF3 0x6E .ROR .absolute 6 ll hh s

/-- `ROR` ZeropageIndexedX, byte 0x76 (R170). -/
def execRorZpx76 (ll : Byte) (s : State) : Host.Outcome State Fault Refusal :=
  deliverF2 0x76 .ROR .zeropageIndexedX 6 ll s

/-- `ROR` AbsoluteIndexedX(false), byte 0x7E (R170). -/
def execRorAbx7E (ll hh : Byte) (s : State) : Host.Outcome State Fault Refusal :=
  deliverF3 0x7E .ROR (.absoluteIndexedX false) 7 ll hh s

end Sys2Proof.Machine
end

