-- ==== Sys2Proof/Machine/Transfer.lean ====
section
/-!
DEFINITION. The meanings of stack and register transfers.
Each is the shared operation `Decode` (40_decode.md R101) with the constants of its row.
-/

namespace Sys2Proof.Machine

/-! ### PHA (42_documented_b.md R165) -/

/-- `PHA` Implied, byte 0x48 (R165). -/
def execPhaImp48 (s : State) : Host.Outcome State Fault Refusal :=
  deliverF1 0x48 .PHA .implied 3 s

/-! ### PHP (42_documented_b.md R166) -/

/-- `PHP` Implied, byte 0x08 (R166). -/
def execPhpImp08 (s : State) : Host.Outcome State Fault Refusal :=
  deliverF1 0x08 .PHP .implied 3 s

/-! ### PLA (42_documented_b.md R167) -/

/-- `PLA` Implied, byte 0x68 (R167). -/
def execPlaImp68 (s : State) : Host.Outcome State Fault Refusal :=
  deliverF1 0x68 .PLA .implied 4 s

/-! ### PLP (42_documented_b.md R168) -/

/-- `PLP` Implied, byte 0x28 (R168). -/
def execPlpImp28 (s : State) : Host.Outcome State Fault Refusal :=
  deliverF1 0x28 .PLP .implied 4 s

/-! ### TAX (42_documented_b.md R180) -/

/-- `TAX` Implied, byte 0xAA (R180). -/
def execTaxImpAA (s : State) : Host.Outcome State Fault Refusal :=
  deliverF1 0xAA .TAX .implied 2 s

/-! ### TAY (42_documented_b.md R181) -/

/-- `TAY` Implied, byte 0xA8 (R181). -/
def execTayImpA8 (s : State) : Host.Outcome State Fault Refusal :=
  deliverF1 0xA8 .TAY .implied 2 s

/-! ### TSX (42_documented_b.md R182) -/

/-- `TSX` Implied, byte 0xBA (R182). -/
def execTsxImpBA (s : State) : Host.Outcome State Fault Refusal :=
  deliverF1 0xBA .TSX .implied 2 s

/-! ### TXA (42_documented_b.md R183) -/

/-- `TXA` Implied, byte 0x8A (R183). -/
def execTxaImp8A (s : State) : Host.Outcome State Fault Refusal :=
  deliverF1 0x8A .TXA .implied 2 s

/-! ### TXS (42_documented_b.md R184) -/

/-- `TXS` Implied, byte 0x9A (R184). -/
def execTxsImp9A (s : State) : Host.Outcome State Fault Refusal :=
  deliverF1 0x9A .TXS .implied 2 s

/-! ### TYA (42_documented_b.md R185) -/

/-- `TYA` Implied, byte 0x98 (R185). -/
def execTyaImp98 (s : State) : Host.Outcome State Fault Refusal :=
  deliverF1 0x98 .TYA .implied 2 s

end Sys2Proof.Machine
end

