-- ==== Sys2Proof/Machine/Undoc.lean ====
section
/-!
DEFINITION. The meanings of the other undocumented mnemonics, HLT among them.
Each is the shared operation `Decode` (40_decode.md R101) with the constants of its row.
-/

namespace Sys2Proof.Machine

/-! ### HLT (43_undocumented.md R200) -/

/-- `HLT` Implied, byte 0x02 (R200). -/
def execHltImp02 (s : State) : Host.Outcome State Fault Refusal :=
  deliverF1 0x02 .HLT .implied hltCyclesByte s

/-- `HLT` Implied, byte 0x12 (R200). -/
def execHltImp12 (s : State) : Host.Outcome State Fault Refusal :=
  deliverF1 0x12 .HLT .implied hltCyclesByte s

/-- `HLT` Implied, byte 0x22 (R200). -/
def execHltImp22 (s : State) : Host.Outcome State Fault Refusal :=
  deliverF1 0x22 .HLT .implied hltCyclesByte s

/-- `HLT` Implied, byte 0x32 (R200). -/
def execHltImp32 (s : State) : Host.Outcome State Fault Refusal :=
  deliverF1 0x32 .HLT .implied hltCyclesByte s

/-- `HLT` Implied, byte 0x42 (R200). -/
def execHltImp42 (s : State) : Host.Outcome State Fault Refusal :=
  deliverF1 0x42 .HLT .implied hltCyclesByte s

/-- `HLT` Implied, byte 0x52 (R200). -/
def execHltImp52 (s : State) : Host.Outcome State Fault Refusal :=
  deliverF1 0x52 .HLT .implied hltCyclesByte s

/-- `HLT` Implied, byte 0x62 (R200). -/
def execHltImp62 (s : State) : Host.Outcome State Fault Refusal :=
  deliverF1 0x62 .HLT .implied hltCyclesByte s

/-- `HLT` Implied, byte 0x72 (R200). -/
def execHltImp72 (s : State) : Host.Outcome State Fault Refusal :=
  deliverF1 0x72 .HLT .implied hltCyclesByte s

/-- `HLT` Implied, byte 0x92 (R200). -/
def execHltImp92 (s : State) : Host.Outcome State Fault Refusal :=
  deliverF1 0x92 .HLT .implied hltCyclesByte s

/-- `HLT` Implied, byte 0xB2 (R200). -/
def execHltImpB2 (s : State) : Host.Outcome State Fault Refusal :=
  deliverF1 0xB2 .HLT .implied hltCyclesByte s

/-- `HLT` Implied, byte 0xD2 (R200). -/
def execHltImpD2 (s : State) : Host.Outcome State Fault Refusal :=
  deliverF1 0xD2 .HLT .implied hltCyclesByte s

/-- `HLT` Implied, byte 0xF2 (R200). -/
def execHltImpF2 (s : State) : Host.Outcome State Fault Refusal :=
  deliverF1 0xF2 .HLT .implied hltCyclesByte s

/-! ### ANC (43_undocumented.md R202) -/

/-- `ANC` Immediate, byte 0x0B (R202). -/
def execAncImm0B (ll : Byte) (s : State) : Host.Outcome State Fault Refusal :=
  deliverF2 0x0B .ANC .immediate 2 ll s

/-- `ANC` Immediate, byte 0x2B (R202). -/
def execAncImm2B (ll : Byte) (s : State) : Host.Outcome State Fault Refusal :=
  deliverF2 0x2B .ANC .immediate 2 ll s

/-! ### ALR (43_undocumented.md R206) -/

/-- `ALR` Immediate, byte 0x4B (R206). -/
def execAlrImm4B (ll : Byte) (s : State) : Host.Outcome State Fault Refusal :=
  deliverF2 0x4B .ALR .immediate 2 ll s

/-! ### SAX (43_undocumented.md R207) -/

/-- `SAX` IndexedIndirectX, byte 0x83 (R207). -/
def execSaxIzx83 (ll : Byte) (s : State) : Host.Outcome State Fault Refusal :=
  deliverF2 0x83 .SAX .indexedIndirectX 6 ll s

/-- `SAX` Zeropage, byte 0x87 (R207). -/
def execSaxZp87 (ll : Byte) (s : State) : Host.Outcome State Fault Refusal :=
  deliverF2 0x87 .SAX .zeropage 3 ll s

/-- `SAX` Absolute, byte 0x8F (R207). -/
def execSaxAbs8F (ll hh : Byte) (s : State) : Host.Outcome State Fault Refusal :=
  deliverF3 0x8F .SAX .absolute 4 ll hh s

/-- `SAX` ZeropageIndexedY, byte 0x97 (R207). -/
def execSaxZpy97 (ll : Byte) (s : State) : Host.Outcome State Fault Refusal :=
  deliverF2 0x97 .SAX .zeropageIndexedY 4 ll s

/-! ### XAA (43_undocumented.md R208) -/

/-- `XAA` Immediate, byte 0x8B (R208). -/
def execXaaImm8B (ll : Byte) (s : State) : Host.Outcome State Fault Refusal :=
  deliverF2 0x8B .XAA .immediate 2 ll s

/-! ### AHX (43_undocumented.md R209) -/

/-- `AHX` IndirectIndexedY(false), byte 0x93 (R209). -/
def execAhxIzy93 (ll : Byte) (s : State) : Host.Outcome State Fault Refusal :=
  deliverF2 0x93 .AHX (.indirectIndexedY false) 6 ll s

/-- `AHX` AbsoluteIndexedY(false), byte 0x9F (R209). -/
def execAhxAby9F (ll hh : Byte) (s : State) : Host.Outcome State Fault Refusal :=
  deliverF3 0x9F .AHX (.absoluteIndexedY false) 5 ll hh s

/-! ### TAS (43_undocumented.md R210) -/

/-- `TAS` AbsoluteIndexedY(false), byte 0x9B (R210). -/
def execTasAby9B (ll hh : Byte) (s : State) : Host.Outcome State Fault Refusal :=
  deliverF3 0x9B .TAS (.absoluteIndexedY false) 5 ll hh s

/-! ### SHY (43_undocumented.md R211) -/

/-- `SHY` AbsoluteIndexedX(false), byte 0x9C (R211). -/
def execShyAbx9C (ll hh : Byte) (s : State) : Host.Outcome State Fault Refusal :=
  deliverF3 0x9C .SHY (.absoluteIndexedX false) 5 ll hh s

/-! ### SHX (43_undocumented.md R212) -/

/-- `SHX` AbsoluteIndexedY(false), byte 0x9E (R212). -/
def execShxAby9E (ll hh : Byte) (s : State) : Host.Outcome State Fault Refusal :=
  deliverF3 0x9E .SHX (.absoluteIndexedY false) 5 ll hh s

/-! ### ARR (43_undocumented.md R213) -/

/-- `ARR` Immediate, byte 0x6B (R213). -/
def execArrImm6B (ll : Byte) (s : State) : Host.Outcome State Fault Refusal :=
  deliverF2 0x6B .ARR .immediate 2 ll s

/-! ### LAX (43_undocumented.md R214) -/

/-- `LAX` IndexedIndirectX, byte 0xA3 (R214). -/
def execLaxIzxA3 (ll : Byte) (s : State) : Host.Outcome State Fault Refusal :=
  deliverF2 0xA3 .LAX .indexedIndirectX 6 ll s

/-- `LAX` Zeropage, byte 0xA7 (R214). -/
def execLaxZpA7 (ll : Byte) (s : State) : Host.Outcome State Fault Refusal :=
  deliverF2 0xA7 .LAX .zeropage 3 ll s

/-- `LAX` Immediate, byte 0xAB (R214). -/
def execLaxImmAB (ll : Byte) (s : State) : Host.Outcome State Fault Refusal :=
  deliverF2 0xAB .LAX .immediate 2 ll s

/-- `LAX` Absolute, byte 0xAF (R214). -/
def execLaxAbsAF (ll hh : Byte) (s : State) : Host.Outcome State Fault Refusal :=
  deliverF3 0xAF .LAX .absolute 4 ll hh s

/-- `LAX` IndirectIndexedY(true), byte 0xB3 (R214). -/
def execLaxIzyB3 (ll : Byte) (s : State) : Host.Outcome State Fault Refusal :=
  deliverF2 0xB3 .LAX (.indirectIndexedY true) 5 ll s

/-- `LAX` ZeropageIndexedY, byte 0xB7 (R214). -/
def execLaxZpyB7 (ll : Byte) (s : State) : Host.Outcome State Fault Refusal :=
  deliverF2 0xB7 .LAX .zeropageIndexedY 4 ll s

/-- `LAX` AbsoluteIndexedY(true), byte 0xBF (R214). -/
def execLaxAbyBF (ll hh : Byte) (s : State) : Host.Outcome State Fault Refusal :=
  deliverF3 0xBF .LAX (.absoluteIndexedY true) 4 ll hh s

/-! ### LAS (43_undocumented.md R215) -/

/-- `LAS` AbsoluteIndexedY(true), byte 0xBB (R215). -/
def execLasAbyBB (ll hh : Byte) (s : State) : Host.Outcome State Fault Refusal :=
  deliverF3 0xBB .LAS (.absoluteIndexedY true) 4 ll hh s

/-! ### AXS (43_undocumented.md R217) -/

/-- `AXS` Immediate, byte 0xCB (R217). -/
def execAxsImmCB (ll : Byte) (s : State) : Host.Outcome State Fault Refusal :=
  deliverF2 0xCB .AXS .immediate 2 ll s

end Sys2Proof.Machine
end

