-- ==== Sys2Proof/Machine/UndocRmw.lean ====
section
/-!
DEFINITION. The meanings of the combined undocumented read-modify-write mnemonics SLO, RLA, SRE, RRA, DCP and ISC.
Each is the shared operation `Decode` (40_decode.md R101) with the constants of its row.
-/

namespace Sys2Proof.Machine

/-! ### SLO (43_undocumented.md R201) -/

/-- `SLO` IndexedIndirectX, byte 0x03 (R201). -/
def execSloIzx03 (ll : Byte) (s : State) : Host.Outcome State Fault Refusal :=
  deliverF2 0x03 .SLO .indexedIndirectX 8 ll s

/-- `SLO` Zeropage, byte 0x07 (R201). -/
def execSloZp07 (ll : Byte) (s : State) : Host.Outcome State Fault Refusal :=
  deliverF2 0x07 .SLO .zeropage 5 ll s

/-- `SLO` Absolute, byte 0x0F (R201). -/
def execSloAbs0F (ll hh : Byte) (s : State) : Host.Outcome State Fault Refusal :=
  deliverF3 0x0F .SLO .absolute 6 ll hh s

/-- `SLO` IndirectIndexedY(false), byte 0x13 (R201). -/
def execSloIzy13 (ll : Byte) (s : State) : Host.Outcome State Fault Refusal :=
  deliverF2 0x13 .SLO (.indirectIndexedY false) 8 ll s

/-- `SLO` ZeropageIndexedX, byte 0x17 (R201). -/
def execSloZpx17 (ll : Byte) (s : State) : Host.Outcome State Fault Refusal :=
  deliverF2 0x17 .SLO .zeropageIndexedX 6 ll s

/-- `SLO` AbsoluteIndexedY(false), byte 0x1B (R201). -/
def execSloAby1B (ll hh : Byte) (s : State) : Host.Outcome State Fault Refusal :=
  deliverF3 0x1B .SLO (.absoluteIndexedY false) 7 ll hh s

/-- `SLO` AbsoluteIndexedX(false), byte 0x1F (R201). -/
def execSloAbx1F (ll hh : Byte) (s : State) : Host.Outcome State Fault Refusal :=
  deliverF3 0x1F .SLO (.absoluteIndexedX false) 7 ll hh s

/-! ### RLA (43_undocumented.md R203) -/

/-- `RLA` IndexedIndirectX, byte 0x23 (R203). -/
def execRlaIzx23 (ll : Byte) (s : State) : Host.Outcome State Fault Refusal :=
  deliverF2 0x23 .RLA .indexedIndirectX 8 ll s

/-- `RLA` Zeropage, byte 0x27 (R203). -/
def execRlaZp27 (ll : Byte) (s : State) : Host.Outcome State Fault Refusal :=
  deliverF2 0x27 .RLA .zeropage 5 ll s

/-- `RLA` Absolute, byte 0x2F (R203). -/
def execRlaAbs2F (ll hh : Byte) (s : State) : Host.Outcome State Fault Refusal :=
  deliverF3 0x2F .RLA .absolute 6 ll hh s

/-- `RLA` IndirectIndexedY(false), byte 0x33 (R203). -/
def execRlaIzy33 (ll : Byte) (s : State) : Host.Outcome State Fault Refusal :=
  deliverF2 0x33 .RLA (.indirectIndexedY false) 8 ll s

/-- `RLA` ZeropageIndexedX, byte 0x37 (R203). -/
def execRlaZpx37 (ll : Byte) (s : State) : Host.Outcome State Fault Refusal :=
  deliverF2 0x37 .RLA .zeropageIndexedX 6 ll s

/-- `RLA` AbsoluteIndexedY(false), byte 0x3B (R203). -/
def execRlaAby3B (ll hh : Byte) (s : State) : Host.Outcome State Fault Refusal :=
  deliverF3 0x3B .RLA (.absoluteIndexedY false) 7 ll hh s

/-- `RLA` AbsoluteIndexedX(false), byte 0x3F (R203). -/
def execRlaAbx3F (ll hh : Byte) (s : State) : Host.Outcome State Fault Refusal :=
  deliverF3 0x3F .RLA (.absoluteIndexedX false) 7 ll hh s

/-! ### SRE (43_undocumented.md R204) -/

/-- `SRE` IndexedIndirectX, byte 0x43 (R204). -/
def execSreIzx43 (ll : Byte) (s : State) : Host.Outcome State Fault Refusal :=
  deliverF2 0x43 .SRE .indexedIndirectX 8 ll s

/-- `SRE` Zeropage, byte 0x47 (R204). -/
def execSreZp47 (ll : Byte) (s : State) : Host.Outcome State Fault Refusal :=
  deliverF2 0x47 .SRE .zeropage 5 ll s

/-- `SRE` Absolute, byte 0x4F (R204). -/
def execSreAbs4F (ll hh : Byte) (s : State) : Host.Outcome State Fault Refusal :=
  deliverF3 0x4F .SRE .absolute 6 ll hh s

/-- `SRE` IndirectIndexedY(false), byte 0x53 (R204). -/
def execSreIzy53 (ll : Byte) (s : State) : Host.Outcome State Fault Refusal :=
  deliverF2 0x53 .SRE (.indirectIndexedY false) 8 ll s

/-- `SRE` ZeropageIndexedX, byte 0x57 (R204). -/
def execSreZpx57 (ll : Byte) (s : State) : Host.Outcome State Fault Refusal :=
  deliverF2 0x57 .SRE .zeropageIndexedX 6 ll s

/-- `SRE` AbsoluteIndexedY(false), byte 0x5B (R204). -/
def execSreAby5B (ll hh : Byte) (s : State) : Host.Outcome State Fault Refusal :=
  deliverF3 0x5B .SRE (.absoluteIndexedY false) 7 ll hh s

/-- `SRE` AbsoluteIndexedX(false), byte 0x5F (R204). -/
def execSreAbx5F (ll hh : Byte) (s : State) : Host.Outcome State Fault Refusal :=
  deliverF3 0x5F .SRE (.absoluteIndexedX false) 7 ll hh s

/-! ### RRA (43_undocumented.md R205) -/

/-- `RRA` IndexedIndirectX, byte 0x63 (R205). -/
def execRraIzx63 (ll : Byte) (s : State) : Host.Outcome State Fault Refusal :=
  deliverF2 0x63 .RRA .indexedIndirectX 8 ll s

/-- `RRA` Zeropage, byte 0x67 (R205). -/
def execRraZp67 (ll : Byte) (s : State) : Host.Outcome State Fault Refusal :=
  deliverF2 0x67 .RRA .zeropage 5 ll s

/-- `RRA` Absolute, byte 0x6F (R205). -/
def execRraAbs6F (ll hh : Byte) (s : State) : Host.Outcome State Fault Refusal :=
  deliverF3 0x6F .RRA .absolute 6 ll hh s

/-- `RRA` IndirectIndexedY(false), byte 0x73 (R205). -/
def execRraIzy73 (ll : Byte) (s : State) : Host.Outcome State Fault Refusal :=
  deliverF2 0x73 .RRA (.indirectIndexedY false) 8 ll s

/-- `RRA` ZeropageIndexedX, byte 0x77 (R205). -/
def execRraZpx77 (ll : Byte) (s : State) : Host.Outcome State Fault Refusal :=
  deliverF2 0x77 .RRA .zeropageIndexedX 6 ll s

/-- `RRA` AbsoluteIndexedY(false), byte 0x7B (R205). -/
def execRraAby7B (ll hh : Byte) (s : State) : Host.Outcome State Fault Refusal :=
  deliverF3 0x7B .RRA (.absoluteIndexedY false) 7 ll hh s

/-- `RRA` AbsoluteIndexedX(false), byte 0x7F (R205). -/
def execRraAbx7F (ll hh : Byte) (s : State) : Host.Outcome State Fault Refusal :=
  deliverF3 0x7F .RRA (.absoluteIndexedX false) 7 ll hh s

/-! ### DCP (43_undocumented.md R216) -/

/-- `DCP` IndexedIndirectX, byte 0xC3 (R216). -/
def execDcpIzxC3 (ll : Byte) (s : State) : Host.Outcome State Fault Refusal :=
  deliverF2 0xC3 .DCP .indexedIndirectX 8 ll s

/-- `DCP` Zeropage, byte 0xC7 (R216). -/
def execDcpZpC7 (ll : Byte) (s : State) : Host.Outcome State Fault Refusal :=
  deliverF2 0xC7 .DCP .zeropage 5 ll s

/-- `DCP` Absolute, byte 0xCF (R216). -/
def execDcpAbsCF (ll hh : Byte) (s : State) : Host.Outcome State Fault Refusal :=
  deliverF3 0xCF .DCP .absolute 6 ll hh s

/-- `DCP` IndirectIndexedY(false), byte 0xD3 (R216). -/
def execDcpIzyD3 (ll : Byte) (s : State) : Host.Outcome State Fault Refusal :=
  deliverF2 0xD3 .DCP (.indirectIndexedY false) 8 ll s

/-- `DCP` ZeropageIndexedX, byte 0xD7 (R216). -/
def execDcpZpxD7 (ll : Byte) (s : State) : Host.Outcome State Fault Refusal :=
  deliverF2 0xD7 .DCP .zeropageIndexedX 6 ll s

/-- `DCP` AbsoluteIndexedY(false), byte 0xDB (R216). -/
def execDcpAbyDB (ll hh : Byte) (s : State) : Host.Outcome State Fault Refusal :=
  deliverF3 0xDB .DCP (.absoluteIndexedY false) 7 ll hh s

/-- `DCP` AbsoluteIndexedX(false), byte 0xDF (R216). -/
def execDcpAbxDF (ll hh : Byte) (s : State) : Host.Outcome State Fault Refusal :=
  deliverF3 0xDF .DCP (.absoluteIndexedX false) 7 ll hh s

/-! ### ISC (43_undocumented.md R218) -/

/-- `ISC` IndexedIndirectX, byte 0xE3 (R218). -/
def execIscIzxE3 (ll : Byte) (s : State) : Host.Outcome State Fault Refusal :=
  deliverF2 0xE3 .ISC .indexedIndirectX 8 ll s

/-- `ISC` Zeropage, byte 0xE7 (R218). -/
def execIscZpE7 (ll : Byte) (s : State) : Host.Outcome State Fault Refusal :=
  deliverF2 0xE7 .ISC .zeropage 5 ll s

/-- `ISC` Absolute, byte 0xEF (R218). -/
def execIscAbsEF (ll hh : Byte) (s : State) : Host.Outcome State Fault Refusal :=
  deliverF3 0xEF .ISC .absolute 6 ll hh s

/-- `ISC` IndirectIndexedY(false), byte 0xF3 (R218). -/
def execIscIzyF3 (ll : Byte) (s : State) : Host.Outcome State Fault Refusal :=
  deliverF2 0xF3 .ISC (.indirectIndexedY false) 8 ll s

/-- `ISC` ZeropageIndexedX, byte 0xF7 (R218). -/
def execIscZpxF7 (ll : Byte) (s : State) : Host.Outcome State Fault Refusal :=
  deliverF2 0xF7 .ISC .zeropageIndexedX 6 ll s

/-- `ISC` AbsoluteIndexedY(false), byte 0xFB (R218). -/
def execIscAbyFB (ll hh : Byte) (s : State) : Host.Outcome State Fault Refusal :=
  deliverF3 0xFB .ISC (.absoluteIndexedY false) 7 ll hh s

/-- `ISC` AbsoluteIndexedX(false), byte 0xFF (R218). -/
def execIscAbxFF (ll hh : Byte) (s : State) : Host.Outcome State Fault Refusal :=
  deliverF3 0xFF .ISC (.absoluteIndexedX false) 7 ll hh s

end Sys2Proof.Machine
end

