-- ==== Sys2Proof/Machine/Dispatch.lean ====
section
/-! DEFINITION. One arm for each constructor of Instr, each one call of its meaning. -/

namespace Sys2Proof.Machine

def exec (i : Instr) (s : State) : Host.Outcome State Fault Refusal :=
  match i with
  | .brkImp00 => Sys2Proof.Machine.execBrkImp00 s
  | .oraIzx01 ll => Sys2Proof.Machine.execOraIzx01 ll s
  | .hltImp02 => Sys2Proof.Machine.execHltImp02 s
  | .sloIzx03 ll => Sys2Proof.Machine.execSloIzx03 ll s
  | .nopZp04 ll => Sys2Proof.Machine.execNopZp04 ll s
  | .oraZp05 ll => Sys2Proof.Machine.execOraZp05 ll s
  | .aslZp06 ll => Sys2Proof.Machine.execAslZp06 ll s
  | .sloZp07 ll => Sys2Proof.Machine.execSloZp07 ll s
  | .phpImp08 => Sys2Proof.Machine.execPhpImp08 s
  | .oraImm09 ll => Sys2Proof.Machine.execOraImm09 ll s
  | .aslAcc0A => Sys2Proof.Machine.execAslAcc0A s
  | .ancImm0B ll => Sys2Proof.Machine.execAncImm0B ll s
  | .nopAbs0C ll hh => Sys2Proof.Machine.execNopAbs0C ll hh s
  | .oraAbs0D ll hh => Sys2Proof.Machine.execOraAbs0D ll hh s
  | .aslAbs0E ll hh => Sys2Proof.Machine.execAslAbs0E ll hh s
  | .sloAbs0F ll hh => Sys2Proof.Machine.execSloAbs0F ll hh s
  | .bplRel10 ll => Sys2Proof.Machine.execBplRel10 ll s
  | .oraIzy11 ll => Sys2Proof.Machine.execOraIzy11 ll s
  | .hltImp12 => Sys2Proof.Machine.execHltImp12 s
  | .sloIzy13 ll => Sys2Proof.Machine.execSloIzy13 ll s
  | .nopZpx14 ll => Sys2Proof.Machine.execNopZpx14 ll s
  | .oraZpx15 ll => Sys2Proof.Machine.execOraZpx15 ll s
  | .aslZpx16 ll => Sys2Proof.Machine.execAslZpx16 ll s
  | .sloZpx17 ll => Sys2Proof.Machine.execSloZpx17 ll s
  | .clcImp18 => Sys2Proof.Machine.execClcImp18 s
  | .oraAby19 ll hh => Sys2Proof.Machine.execOraAby19 ll hh s
  | .nopImp1A => Sys2Proof.Machine.execNopImp1A s
  | .sloAby1B ll hh => Sys2Proof.Machine.execSloAby1B ll hh s
  | .nopAbx1C ll hh => Sys2Proof.Machine.execNopAbx1C ll hh s
  | .oraAbx1D ll hh => Sys2Proof.Machine.execOraAbx1D ll hh s
  | .aslAbx1E ll hh => Sys2Proof.Machine.execAslAbx1E ll hh s
  | .sloAbx1F ll hh => Sys2Proof.Machine.execSloAbx1F ll hh s
  | .jsrAbs20 ll hh => Sys2Proof.Machine.execJsrAbs20 ll hh s
  | .andIzx21 ll => Sys2Proof.Machine.execAndIzx21 ll s
  | .hltImp22 => Sys2Proof.Machine.execHltImp22 s
  | .rlaIzx23 ll => Sys2Proof.Machine.execRlaIzx23 ll s
  | .bitZp24 ll => Sys2Proof.Machine.execBitZp24 ll s
  | .andZp25 ll => Sys2Proof.Machine.execAndZp25 ll s
  | .rolZp26 ll => Sys2Proof.Machine.execRolZp26 ll s
  | .rlaZp27 ll => Sys2Proof.Machine.execRlaZp27 ll s
  | .plpImp28 => Sys2Proof.Machine.execPlpImp28 s
  | .andImm29 ll => Sys2Proof.Machine.execAndImm29 ll s
  | .rolAcc2A => Sys2Proof.Machine.execRolAcc2A s
  | .ancImm2B ll => Sys2Proof.Machine.execAncImm2B ll s
  | .bitAbs2C ll hh => Sys2Proof.Machine.execBitAbs2C ll hh s
  | .andAbs2D ll hh => Sys2Proof.Machine.execAndAbs2D ll hh s
  | .rolAbs2E ll hh => Sys2Proof.Machine.execRolAbs2E ll hh s
  | .rlaAbs2F ll hh => Sys2Proof.Machine.execRlaAbs2F ll hh s
  | .bmiRel30 ll => Sys2Proof.Machine.execBmiRel30 ll s
  | .andIzy31 ll => Sys2Proof.Machine.execAndIzy31 ll s
  | .hltImp32 => Sys2Proof.Machine.execHltImp32 s
  | .rlaIzy33 ll => Sys2Proof.Machine.execRlaIzy33 ll s
  | .nopZpx34 ll => Sys2Proof.Machine.execNopZpx34 ll s
  | .andZpx35 ll => Sys2Proof.Machine.execAndZpx35 ll s
  | .rolZpx36 ll => Sys2Proof.Machine.execRolZpx36 ll s
  | .rlaZpx37 ll => Sys2Proof.Machine.execRlaZpx37 ll s
  | .secImp38 => Sys2Proof.Machine.execSecImp38 s
  | .andAby39 ll hh => Sys2Proof.Machine.execAndAby39 ll hh s
  | .nopImp3A => Sys2Proof.Machine.execNopImp3A s
  | .rlaAby3B ll hh => Sys2Proof.Machine.execRlaAby3B ll hh s
  | .nopAbx3C ll hh => Sys2Proof.Machine.execNopAbx3C ll hh s
  | .andAbx3D ll hh => Sys2Proof.Machine.execAndAbx3D ll hh s
  | .rolAbx3E ll hh => Sys2Proof.Machine.execRolAbx3E ll hh s
  | .rlaAbx3F ll hh => Sys2Proof.Machine.execRlaAbx3F ll hh s
  | .rtiImp40 => Sys2Proof.Machine.execRtiImp40 s
  | .eorIzx41 ll => Sys2Proof.Machine.execEorIzx41 ll s
  | .hltImp42 => Sys2Proof.Machine.execHltImp42 s
  | .sreIzx43 ll => Sys2Proof.Machine.execSreIzx43 ll s
  | .nopZp44 ll => Sys2Proof.Machine.execNopZp44 ll s
  | .eorZp45 ll => Sys2Proof.Machine.execEorZp45 ll s
  | .lsrZp46 ll => Sys2Proof.Machine.execLsrZp46 ll s
  | .sreZp47 ll => Sys2Proof.Machine.execSreZp47 ll s
  | .phaImp48 => Sys2Proof.Machine.execPhaImp48 s
  | .eorImm49 ll => Sys2Proof.Machine.execEorImm49 ll s
  | .lsrAcc4A => Sys2Proof.Machine.execLsrAcc4A s
  | .alrImm4B ll => Sys2Proof.Machine.execAlrImm4B ll s
  | .jmpAbs4C ll hh => Sys2Proof.Machine.execJmpAbs4C ll hh s
  | .eorAbs4D ll hh => Sys2Proof.Machine.execEorAbs4D ll hh s
  | .lsrAbs4E ll hh => Sys2Proof.Machine.execLsrAbs4E ll hh s
  | .sreAbs4F ll hh => Sys2Proof.Machine.execSreAbs4F ll hh s
  | .bvcRel50 ll => Sys2Proof.Machine.execBvcRel50 ll s
  | .eorIzy51 ll => Sys2Proof.Machine.execEorIzy51 ll s
  | .hltImp52 => Sys2Proof.Machine.execHltImp52 s
  | .sreIzy53 ll => Sys2Proof.Machine.execSreIzy53 ll s
  | .nopZpx54 ll => Sys2Proof.Machine.execNopZpx54 ll s
  | .eorZpx55 ll => Sys2Proof.Machine.execEorZpx55 ll s
  | .lsrZpx56 ll => Sys2Proof.Machine.execLsrZpx56 ll s
  | .sreZpx57 ll => Sys2Proof.Machine.execSreZpx57 ll s
  | .cliImp58 => Sys2Proof.Machine.execCliImp58 s
  | .eorAby59 ll hh => Sys2Proof.Machine.execEorAby59 ll hh s
  | .nopImp5A => Sys2Proof.Machine.execNopImp5A s
  | .sreAby5B ll hh => Sys2Proof.Machine.execSreAby5B ll hh s
  | .nopAbx5C ll hh => Sys2Proof.Machine.execNopAbx5C ll hh s
  | .eorAbx5D ll hh => Sys2Proof.Machine.execEorAbx5D ll hh s
  | .lsrAbx5E ll hh => Sys2Proof.Machine.execLsrAbx5E ll hh s
  | .sreAbx5F ll hh => Sys2Proof.Machine.execSreAbx5F ll hh s
  | .rtsImp60 => Sys2Proof.Machine.execRtsImp60 s
  | .adcIzx61 ll => Sys2Proof.Machine.execAdcIzx61 ll s
  | .hltImp62 => Sys2Proof.Machine.execHltImp62 s
  | .rraIzx63 ll => Sys2Proof.Machine.execRraIzx63 ll s
  | .nopZp64 ll => Sys2Proof.Machine.execNopZp64 ll s
  | .adcZp65 ll => Sys2Proof.Machine.execAdcZp65 ll s
  | .rorZp66 ll => Sys2Proof.Machine.execRorZp66 ll s
  | .rraZp67 ll => Sys2Proof.Machine.execRraZp67 ll s
  | .plaImp68 => Sys2Proof.Machine.execPlaImp68 s
  | .adcImm69 ll => Sys2Proof.Machine.execAdcImm69 ll s
  | .rorAcc6A => Sys2Proof.Machine.execRorAcc6A s
  | .arrImm6B ll => Sys2Proof.Machine.execArrImm6B ll s
  | .jmpInd6C ll hh => Sys2Proof.Machine.execJmpInd6C ll hh s
  | .adcAbs6D ll hh => Sys2Proof.Machine.execAdcAbs6D ll hh s
  | .rorAbs6E ll hh => Sys2Proof.Machine.execRorAbs6E ll hh s
  | .rraAbs6F ll hh => Sys2Proof.Machine.execRraAbs6F ll hh s
  | .bvsRel70 ll => Sys2Proof.Machine.execBvsRel70 ll s
  | .adcIzy71 ll => Sys2Proof.Machine.execAdcIzy71 ll s
  | .hltImp72 => Sys2Proof.Machine.execHltImp72 s
  | .rraIzy73 ll => Sys2Proof.Machine.execRraIzy73 ll s
  | .nopZpx74 ll => Sys2Proof.Machine.execNopZpx74 ll s
  | .adcZpx75 ll => Sys2Proof.Machine.execAdcZpx75 ll s
  | .rorZpx76 ll => Sys2Proof.Machine.execRorZpx76 ll s
  | .rraZpx77 ll => Sys2Proof.Machine.execRraZpx77 ll s
  | .seiImp78 => Sys2Proof.Machine.execSeiImp78 s
  | .adcAby79 ll hh => Sys2Proof.Machine.execAdcAby79 ll hh s
  | .nopImp7A => Sys2Proof.Machine.execNopImp7A s
  | .rraAby7B ll hh => Sys2Proof.Machine.execRraAby7B ll hh s
  | .nopAbx7C ll hh => Sys2Proof.Machine.execNopAbx7C ll hh s
  | .adcAbx7D ll hh => Sys2Proof.Machine.execAdcAbx7D ll hh s
  | .rorAbx7E ll hh => Sys2Proof.Machine.execRorAbx7E ll hh s
  | .rraAbx7F ll hh => Sys2Proof.Machine.execRraAbx7F ll hh s
  | .nopImm80 ll => Sys2Proof.Machine.execNopImm80 ll s
  | .staIzx81 ll => Sys2Proof.Machine.execStaIzx81 ll s
  | .nopImm82 ll => Sys2Proof.Machine.execNopImm82 ll s
  | .saxIzx83 ll => Sys2Proof.Machine.execSaxIzx83 ll s
  | .styZp84 ll => Sys2Proof.Machine.execStyZp84 ll s
  | .staZp85 ll => Sys2Proof.Machine.execStaZp85 ll s
  | .stxZp86 ll => Sys2Proof.Machine.execStxZp86 ll s
  | .saxZp87 ll => Sys2Proof.Machine.execSaxZp87 ll s
  | .deyImp88 => Sys2Proof.Machine.execDeyImp88 s
  | .nopImm89 ll => Sys2Proof.Machine.execNopImm89 ll s
  | .txaImp8A => Sys2Proof.Machine.execTxaImp8A s
  | .xaaImm8B ll => Sys2Proof.Machine.execXaaImm8B ll s
  | .styAbs8C ll hh => Sys2Proof.Machine.execStyAbs8C ll hh s
  | .staAbs8D ll hh => Sys2Proof.Machine.execStaAbs8D ll hh s
  | .stxAbs8E ll hh => Sys2Proof.Machine.execStxAbs8E ll hh s
  | .saxAbs8F ll hh => Sys2Proof.Machine.execSaxAbs8F ll hh s
  | .bccRel90 ll => Sys2Proof.Machine.execBccRel90 ll s
  | .staIzy91 ll => Sys2Proof.Machine.execStaIzy91 ll s
  | .hltImp92 => Sys2Proof.Machine.execHltImp92 s
  | .ahxIzy93 ll => Sys2Proof.Machine.execAhxIzy93 ll s
  | .styZpx94 ll => Sys2Proof.Machine.execStyZpx94 ll s
  | .staZpx95 ll => Sys2Proof.Machine.execStaZpx95 ll s
  | .stxZpy96 ll => Sys2Proof.Machine.execStxZpy96 ll s
  | .saxZpy97 ll => Sys2Proof.Machine.execSaxZpy97 ll s
  | .tyaImp98 => Sys2Proof.Machine.execTyaImp98 s
  | .staAby99 ll hh => Sys2Proof.Machine.execStaAby99 ll hh s
  | .txsImp9A => Sys2Proof.Machine.execTxsImp9A s
  | .tasAby9B ll hh => Sys2Proof.Machine.execTasAby9B ll hh s
  | .shyAbx9C ll hh => Sys2Proof.Machine.execShyAbx9C ll hh s
  | .staAbx9D ll hh => Sys2Proof.Machine.execStaAbx9D ll hh s
  | .shxAby9E ll hh => Sys2Proof.Machine.execShxAby9E ll hh s
  | .ahxAby9F ll hh => Sys2Proof.Machine.execAhxAby9F ll hh s
  | .ldyImmA0 ll => Sys2Proof.Machine.execLdyImmA0 ll s
  | .ldaIzxA1 ll => Sys2Proof.Machine.execLdaIzxA1 ll s
  | .ldxImmA2 ll => Sys2Proof.Machine.execLdxImmA2 ll s
  | .laxIzxA3 ll => Sys2Proof.Machine.execLaxIzxA3 ll s
  | .ldyZpA4 ll => Sys2Proof.Machine.execLdyZpA4 ll s
  | .ldaZpA5 ll => Sys2Proof.Machine.execLdaZpA5 ll s
  | .ldxZpA6 ll => Sys2Proof.Machine.execLdxZpA6 ll s
  | .laxZpA7 ll => Sys2Proof.Machine.execLaxZpA7 ll s
  | .tayImpA8 => Sys2Proof.Machine.execTayImpA8 s
  | .ldaImmA9 ll => Sys2Proof.Machine.execLdaImmA9 ll s
  | .taxImpAA => Sys2Proof.Machine.execTaxImpAA s
  | .laxImmAB ll => Sys2Proof.Machine.execLaxImmAB ll s
  | .ldyAbsAC ll hh => Sys2Proof.Machine.execLdyAbsAC ll hh s
  | .ldaAbsAD ll hh => Sys2Proof.Machine.execLdaAbsAD ll hh s
  | .ldxAbsAE ll hh => Sys2Proof.Machine.execLdxAbsAE ll hh s
  | .laxAbsAF ll hh => Sys2Proof.Machine.execLaxAbsAF ll hh s
  | .bcsRelB0 ll => Sys2Proof.Machine.execBcsRelB0 ll s
  | .ldaIzyB1 ll => Sys2Proof.Machine.execLdaIzyB1 ll s
  | .hltImpB2 => Sys2Proof.Machine.execHltImpB2 s
  | .laxIzyB3 ll => Sys2Proof.Machine.execLaxIzyB3 ll s
  | .ldyZpxB4 ll => Sys2Proof.Machine.execLdyZpxB4 ll s
  | .ldaZpxB5 ll => Sys2Proof.Machine.execLdaZpxB5 ll s
  | .ldxZpyB6 ll => Sys2Proof.Machine.execLdxZpyB6 ll s
  | .laxZpyB7 ll => Sys2Proof.Machine.execLaxZpyB7 ll s
  | .clvImpB8 => Sys2Proof.Machine.execClvImpB8 s
  | .ldaAbyB9 ll hh => Sys2Proof.Machine.execLdaAbyB9 ll hh s
  | .tsxImpBA => Sys2Proof.Machine.execTsxImpBA s
  | .lasAbyBB ll hh => Sys2Proof.Machine.execLasAbyBB ll hh s
  | .ldyAbxBC ll hh => Sys2Proof.Machine.execLdyAbxBC ll hh s
  | .ldaAbxBD ll hh => Sys2Proof.Machine.execLdaAbxBD ll hh s
  | .ldxAbyBE ll hh => Sys2Proof.Machine.execLdxAbyBE ll hh s
  | .laxAbyBF ll hh => Sys2Proof.Machine.execLaxAbyBF ll hh s
  | .cpyImmC0 ll => Sys2Proof.Machine.execCpyImmC0 ll s
  | .cmpIzxC1 ll => Sys2Proof.Machine.execCmpIzxC1 ll s
  | .nopImmC2 ll => Sys2Proof.Machine.execNopImmC2 ll s
  | .dcpIzxC3 ll => Sys2Proof.Machine.execDcpIzxC3 ll s
  | .cpyZpC4 ll => Sys2Proof.Machine.execCpyZpC4 ll s
  | .cmpZpC5 ll => Sys2Proof.Machine.execCmpZpC5 ll s
  | .decZpC6 ll => Sys2Proof.Machine.execDecZpC6 ll s
  | .dcpZpC7 ll => Sys2Proof.Machine.execDcpZpC7 ll s
  | .inyImpC8 => Sys2Proof.Machine.execInyImpC8 s
  | .cmpImmC9 ll => Sys2Proof.Machine.execCmpImmC9 ll s
  | .dexImpCA => Sys2Proof.Machine.execDexImpCA s
  | .axsImmCB ll => Sys2Proof.Machine.execAxsImmCB ll s
  | .cpyAbsCC ll hh => Sys2Proof.Machine.execCpyAbsCC ll hh s
  | .cmpAbsCD ll hh => Sys2Proof.Machine.execCmpAbsCD ll hh s
  | .decAbsCE ll hh => Sys2Proof.Machine.execDecAbsCE ll hh s
  | .dcpAbsCF ll hh => Sys2Proof.Machine.execDcpAbsCF ll hh s
  | .bneRelD0 ll => Sys2Proof.Machine.execBneRelD0 ll s
  | .cmpIzyD1 ll => Sys2Proof.Machine.execCmpIzyD1 ll s
  | .hltImpD2 => Sys2Proof.Machine.execHltImpD2 s
  | .dcpIzyD3 ll => Sys2Proof.Machine.execDcpIzyD3 ll s
  | .nopZpxD4 ll => Sys2Proof.Machine.execNopZpxD4 ll s
  | .cmpZpxD5 ll => Sys2Proof.Machine.execCmpZpxD5 ll s
  | .decZpxD6 ll => Sys2Proof.Machine.execDecZpxD6 ll s
  | .dcpZpxD7 ll => Sys2Proof.Machine.execDcpZpxD7 ll s
  | .cldImpD8 => Sys2Proof.Machine.execCldImpD8 s
  | .cmpAbyD9 ll hh => Sys2Proof.Machine.execCmpAbyD9 ll hh s
  | .nopImpDA => Sys2Proof.Machine.execNopImpDA s
  | .dcpAbyDB ll hh => Sys2Proof.Machine.execDcpAbyDB ll hh s
  | .nopAbxDC ll hh => Sys2Proof.Machine.execNopAbxDC ll hh s
  | .cmpAbxDD ll hh => Sys2Proof.Machine.execCmpAbxDD ll hh s
  | .decAbxDE ll hh => Sys2Proof.Machine.execDecAbxDE ll hh s
  | .dcpAbxDF ll hh => Sys2Proof.Machine.execDcpAbxDF ll hh s
  | .cpxImmE0 ll => Sys2Proof.Machine.execCpxImmE0 ll s
  | .sbcIzxE1 ll => Sys2Proof.Machine.execSbcIzxE1 ll s
  | .nopImmE2 ll => Sys2Proof.Machine.execNopImmE2 ll s
  | .iscIzxE3 ll => Sys2Proof.Machine.execIscIzxE3 ll s
  | .cpxZpE4 ll => Sys2Proof.Machine.execCpxZpE4 ll s
  | .sbcZpE5 ll => Sys2Proof.Machine.execSbcZpE5 ll s
  | .incZpE6 ll => Sys2Proof.Machine.execIncZpE6 ll s
  | .iscZpE7 ll => Sys2Proof.Machine.execIscZpE7 ll s
  | .inxImpE8 => Sys2Proof.Machine.execInxImpE8 s
  | .sbcImmE9 ll => Sys2Proof.Machine.execSbcImmE9 ll s
  | .nopImpEA => Sys2Proof.Machine.execNopImpEA s
  | .sbcImmEB ll => Sys2Proof.Machine.execSbcImmEB ll s
  | .cpxAbsEC ll hh => Sys2Proof.Machine.execCpxAbsEC ll hh s
  | .sbcAbsED ll hh => Sys2Proof.Machine.execSbcAbsED ll hh s
  | .incAbsEE ll hh => Sys2Proof.Machine.execIncAbsEE ll hh s
  | .iscAbsEF ll hh => Sys2Proof.Machine.execIscAbsEF ll hh s
  | .beqRelF0 ll => Sys2Proof.Machine.execBeqRelF0 ll s
  | .sbcIzyF1 ll => Sys2Proof.Machine.execSbcIzyF1 ll s
  | .hltImpF2 => Sys2Proof.Machine.execHltImpF2 s
  | .iscIzyF3 ll => Sys2Proof.Machine.execIscIzyF3 ll s
  | .nopZpxF4 ll => Sys2Proof.Machine.execNopZpxF4 ll s
  | .sbcZpxF5 ll => Sys2Proof.Machine.execSbcZpxF5 ll s
  | .incZpxF6 ll => Sys2Proof.Machine.execIncZpxF6 ll s
  | .iscZpxF7 ll => Sys2Proof.Machine.execIscZpxF7 ll s
  | .sedImpF8 => Sys2Proof.Machine.execSedImpF8 s
  | .sbcAbyF9 ll hh => Sys2Proof.Machine.execSbcAbyF9 ll hh s
  | .nopImpFA => Sys2Proof.Machine.execNopImpFA s
  | .iscAbyFB ll hh => Sys2Proof.Machine.execIscAbyFB ll hh s
  | .nopAbxFC ll hh => Sys2Proof.Machine.execNopAbxFC ll hh s
  | .sbcAbxFD ll hh => Sys2Proof.Machine.execSbcAbxFD ll hh s
  | .incAbxFE ll hh => Sys2Proof.Machine.execIncAbxFE ll hh s
  | .iscAbxFF ll hh => Sys2Proof.Machine.execIscAbxFF ll hh s

end Sys2Proof.Machine
end

