-- ==== Sys2Proof/Machine/Step.lean ====
section
/-!
DEFINITION. One step of the machine: one decode transaction with the inputs the state holds (40_decode.md R101).
-/

namespace Sys2Proof.Machine

/-- One decode: the instruction at the cursor is fetched and its meaning runs; without an opcode byte the fault is
raised (R261). -/
def step (s : State) : Host.Outcome State Fault Refusal :=
  match fetchInstr s with
  | some i => exec i s
  | none => raiseDecodePrecondition s

/-- `s` with the caller's buffer holding, at the cursor, the instruction whose bits are `w` (the bits from `nbits` up
being zero), so that the very next step decodes exactly it (log entry 6). -/
def State.withFetchWord (s : State) (nbits w : Nat) : State :=
  { s with mem := s.mem.place s.cursor (wordBytes nbits w) }

end Sys2Proof.Machine
end

