-- ==== Sys2Proof/Machine/Caller.lean ====
section
/-!
DEFINITION. The caller that the spec's test programs assume (70_reset_and_hazards.md R283, 92 D26): not a part of
the block. No operation of the block and no step calls it.
-/

namespace Sys2Proof.Machine

/-- After a decode that took `before` to `after`, the assumed caller passes `address + (cursor_out - cursor_in)`
modulo 2^16 as the next target address; the cursor stays as the decode returned it (D26; log entry 15). -/
def callerNext (before after : State) : State :=
  { after with targetAddress := before.targetAddress + BitVec.ofNat 16 (after.cursor - before.cursor) }

end Sys2Proof.Machine
end

