-- ==== Sys2Proof/Machine/OpcodeTable.lean ====
section
/-!
DEFINITION. Table T256 (30_encoding.md R63 to R70): the mnemonic, the addressing mode with its page-cross boolean, and
the base cycles of each of the 256 opcode bytes, in the order of the spec's table. It serves the block's operation
`Decode` as its caller sees it (Transaction.lean); each instruction's own meaning states its row's constants itself.
-/

namespace Sys2Proof.Machine

/-- One row of T256. -/
structure TableRow where
  mnemonic : Mnemonic
  mode : AddressingMode
  cycles : Byte
deriving DecidableEq, Repr

/-- The rows of the bytes 0x00 to 0x0F. -/
def rows0 : List TableRow :=
  [
    { mnemonic := .BRK, mode := .implied, cycles := 7 },
    { mnemonic := .ORA, mode := .indexedIndirectX, cycles := 6 },
    { mnemonic := .HLT, mode := .implied, cycles := hltCyclesByte },
    { mnemonic := .SLO, mode := .indexedIndirectX, cycles := 8 },
    { mnemonic := .NOP, mode := .zeropage, cycles := 3 },
    { mnemonic := .ORA, mode := .zeropage, cycles := 3 },
    { mnemonic := .ASL, mode := .zeropage, cycles := 5 },
    { mnemonic := .SLO, mode := .zeropage, cycles := 5 },
    { mnemonic := .PHP, mode := .implied, cycles := 3 },
    { mnemonic := .ORA, mode := .immediate, cycles := 2 },
    { mnemonic := .ASL, mode := .accumulator, cycles := 2 },
    { mnemonic := .ANC, mode := .immediate, cycles := 2 },
    { mnemonic := .NOP, mode := .absolute, cycles := 4 },
    { mnemonic := .ORA, mode := .absolute, cycles := 4 },
    { mnemonic := .ASL, mode := .absolute, cycles := 6 },
    { mnemonic := .SLO, mode := .absolute, cycles := 6 } ]

/-- The rows of the bytes 0x10 to 0x1F. -/
def rows1 : List TableRow :=
  [
    { mnemonic := .BPL, mode := .relative, cycles := 2 },
    { mnemonic := .ORA, mode := .indirectIndexedY true, cycles := 5 },
    { mnemonic := .HLT, mode := .implied, cycles := hltCyclesByte },
    { mnemonic := .SLO, mode := .indirectIndexedY false, cycles := 8 },
    { mnemonic := .NOP, mode := .zeropageIndexedX, cycles := 4 },
    { mnemonic := .ORA, mode := .zeropageIndexedX, cycles := 4 },
    { mnemonic := .ASL, mode := .zeropageIndexedX, cycles := 6 },
    { mnemonic := .SLO, mode := .zeropageIndexedX, cycles := 6 },
    { mnemonic := .CLC, mode := .implied, cycles := 2 },
    { mnemonic := .ORA, mode := .absoluteIndexedY true, cycles := 4 },
    { mnemonic := .NOP, mode := .implied, cycles := 2 },
    { mnemonic := .SLO, mode := .absoluteIndexedY false, cycles := 7 },
    { mnemonic := .NOP, mode := .absoluteIndexedX true, cycles := 4 },
    { mnemonic := .ORA, mode := .absoluteIndexedX true, cycles := 4 },
    { mnemonic := .ASL, mode := .absoluteIndexedX false, cycles := 7 },
    { mnemonic := .SLO, mode := .absoluteIndexedX false, cycles := 7 } ]

/-- The rows of the bytes 0x20 to 0x2F. -/
def rows2 : List TableRow :=
  [
    { mnemonic := .JSR, mode := .absolute, cycles := 6 },
    { mnemonic := .AND, mode := .indexedIndirectX, cycles := 6 },
    { mnemonic := .HLT, mode := .implied, cycles := hltCyclesByte },
    { mnemonic := .RLA, mode := .indexedIndirectX, cycles := 8 },
    { mnemonic := .BIT, mode := .zeropage, cycles := 3 },
    { mnemonic := .AND, mode := .zeropage, cycles := 3 },
    { mnemonic := .ROL, mode := .zeropage, cycles := 5 },
    { mnemonic := .RLA, mode := .zeropage, cycles := 5 },
    { mnemonic := .PLP, mode := .implied, cycles := 4 },
    { mnemonic := .AND, mode := .immediate, cycles := 2 },
    { mnemonic := .ROL, mode := .accumulator, cycles := 2 },
    { mnemonic := .ANC, mode := .immediate, cycles := 2 },
    { mnemonic := .BIT, mode := .absolute, cycles := 4 },
    { mnemonic := .AND, mode := .absolute, cycles := 4 },
    { mnemonic := .ROL, mode := .absolute, cycles := 6 },
    { mnemonic := .RLA, mode := .absolute, cycles := 6 } ]

/-- The rows of the bytes 0x30 to 0x3F. -/
def rows3 : List TableRow :=
  [
    { mnemonic := .BMI, mode := .relative, cycles := 2 },
    { mnemonic := .AND, mode := .indirectIndexedY true, cycles := 5 },
    { mnemonic := .HLT, mode := .implied, cycles := hltCyclesByte },
    { mnemonic := .RLA, mode := .indirectIndexedY false, cycles := 8 },
    { mnemonic := .NOP, mode := .zeropageIndexedX, cycles := 4 },
    { mnemonic := .AND, mode := .zeropageIndexedX, cycles := 4 },
    { mnemonic := .ROL, mode := .zeropageIndexedX, cycles := 6 },
    { mnemonic := .RLA, mode := .zeropageIndexedX, cycles := 6 },
    { mnemonic := .SEC, mode := .implied, cycles := 2 },
    { mnemonic := .AND, mode := .absoluteIndexedY true, cycles := 4 },
    { mnemonic := .NOP, mode := .implied, cycles := 2 },
    { mnemonic := .RLA, mode := .absoluteIndexedY false, cycles := 7 },
    { mnemonic := .NOP, mode := .absoluteIndexedX true, cycles := 4 },
    { mnemonic := .AND, mode := .absoluteIndexedX true, cycles := 4 },
    { mnemonic := .ROL, mode := .absoluteIndexedX false, cycles := 7 },
    { mnemonic := .RLA, mode := .absoluteIndexedX false, cycles := 7 } ]

/-- The rows of the bytes 0x40 to 0x4F. -/
def rows4 : List TableRow :=
  [
    { mnemonic := .RTI, mode := .implied, cycles := 6 },
    { mnemonic := .EOR, mode := .indexedIndirectX, cycles := 6 },
    { mnemonic := .HLT, mode := .implied, cycles := hltCyclesByte },
    { mnemonic := .SRE, mode := .indexedIndirectX, cycles := 8 },
    { mnemonic := .NOP, mode := .zeropage, cycles := 3 },
    { mnemonic := .EOR, mode := .zeropage, cycles := 3 },
    { mnemonic := .LSR, mode := .zeropage, cycles := 5 },
    { mnemonic := .SRE, mode := .zeropage, cycles := 5 },
    { mnemonic := .PHA, mode := .implied, cycles := 3 },
    { mnemonic := .EOR, mode := .immediate, cycles := 2 },
    { mnemonic := .LSR, mode := .accumulator, cycles := 2 },
    { mnemonic := .ALR, mode := .immediate, cycles := 2 },
    { mnemonic := .JMP, mode := .absolute, cycles := 3 },
    { mnemonic := .EOR, mode := .absolute, cycles := 4 },
    { mnemonic := .LSR, mode := .absolute, cycles := 6 },
    { mnemonic := .SRE, mode := .absolute, cycles := 6 } ]

/-- The rows of the bytes 0x50 to 0x5F. -/
def rows5 : List TableRow :=
  [
    { mnemonic := .BVC, mode := .relative, cycles := 2 },
    { mnemonic := .EOR, mode := .indirectIndexedY true, cycles := 5 },
    { mnemonic := .HLT, mode := .implied, cycles := hltCyclesByte },
    { mnemonic := .SRE, mode := .indirectIndexedY false, cycles := 8 },
    { mnemonic := .NOP, mode := .zeropageIndexedX, cycles := 4 },
    { mnemonic := .EOR, mode := .zeropageIndexedX, cycles := 4 },
    { mnemonic := .LSR, mode := .zeropageIndexedX, cycles := 6 },
    { mnemonic := .SRE, mode := .zeropageIndexedX, cycles := 6 },
    { mnemonic := .CLI, mode := .implied, cycles := 2 },
    { mnemonic := .EOR, mode := .absoluteIndexedY true, cycles := 4 },
    { mnemonic := .NOP, mode := .implied, cycles := 2 },
    { mnemonic := .SRE, mode := .absoluteIndexedY false, cycles := 7 },
    { mnemonic := .NOP, mode := .absoluteIndexedX true, cycles := 4 },
    { mnemonic := .EOR, mode := .absoluteIndexedX true, cycles := 4 },
    { mnemonic := .LSR, mode := .absoluteIndexedX false, cycles := 7 },
    { mnemonic := .SRE, mode := .absoluteIndexedX false, cycles := 7 } ]

/-- The rows of the bytes 0x60 to 0x6F. -/
def rows6 : List TableRow :=
  [
    { mnemonic := .RTS, mode := .implied, cycles := 6 },
    { mnemonic := .ADC, mode := .indexedIndirectX, cycles := 6 },
    { mnemonic := .HLT, mode := .implied, cycles := hltCyclesByte },
    { mnemonic := .RRA, mode := .indexedIndirectX, cycles := 8 },
    { mnemonic := .NOP, mode := .zeropage, cycles := 3 },
    { mnemonic := .ADC, mode := .zeropage, cycles := 3 },
    { mnemonic := .ROR, mode := .zeropage, cycles := 5 },
    { mnemonic := .RRA, mode := .zeropage, cycles := 5 },
    { mnemonic := .PLA, mode := .implied, cycles := 4 },
    { mnemonic := .ADC, mode := .immediate, cycles := 2 },
    { mnemonic := .ROR, mode := .accumulator, cycles := 2 },
    { mnemonic := .ARR, mode := .immediate, cycles := 2 },
    { mnemonic := .JMP, mode := .indirect, cycles := 5 },
    { mnemonic := .ADC, mode := .absolute, cycles := 4 },
    { mnemonic := .ROR, mode := .absolute, cycles := 6 },
    { mnemonic := .RRA, mode := .absolute, cycles := 6 } ]

/-- The rows of the bytes 0x70 to 0x7F. -/
def rows7 : List TableRow :=
  [
    { mnemonic := .BVS, mode := .relative, cycles := 2 },
    { mnemonic := .ADC, mode := .indirectIndexedY true, cycles := 5 },
    { mnemonic := .HLT, mode := .implied, cycles := hltCyclesByte },
    { mnemonic := .RRA, mode := .indirectIndexedY false, cycles := 8 },
    { mnemonic := .NOP, mode := .zeropageIndexedX, cycles := 4 },
    { mnemonic := .ADC, mode := .zeropageIndexedX, cycles := 4 },
    { mnemonic := .ROR, mode := .zeropageIndexedX, cycles := 6 },
    { mnemonic := .RRA, mode := .zeropageIndexedX, cycles := 6 },
    { mnemonic := .SEI, mode := .implied, cycles := 2 },
    { mnemonic := .ADC, mode := .absoluteIndexedY true, cycles := 4 },
    { mnemonic := .NOP, mode := .implied, cycles := 2 },
    { mnemonic := .RRA, mode := .absoluteIndexedY false, cycles := 7 },
    { mnemonic := .NOP, mode := .absoluteIndexedX true, cycles := 4 },
    { mnemonic := .ADC, mode := .absoluteIndexedX true, cycles := 4 },
    { mnemonic := .ROR, mode := .absoluteIndexedX false, cycles := 7 },
    { mnemonic := .RRA, mode := .absoluteIndexedX false, cycles := 7 } ]

/-- The rows of the bytes 0x80 to 0x8F. -/
def rows8 : List TableRow :=
  [
    { mnemonic := .NOP, mode := .immediate, cycles := 2 },
    { mnemonic := .STA, mode := .indexedIndirectX, cycles := 6 },
    { mnemonic := .NOP, mode := .immediate, cycles := 2 },
    { mnemonic := .SAX, mode := .indexedIndirectX, cycles := 6 },
    { mnemonic := .STY, mode := .zeropage, cycles := 3 },
    { mnemonic := .STA, mode := .zeropage, cycles := 3 },
    { mnemonic := .STX, mode := .zeropage, cycles := 3 },
    { mnemonic := .SAX, mode := .zeropage, cycles := 3 },
    { mnemonic := .DEY, mode := .implied, cycles := 2 },
    { mnemonic := .NOP, mode := .immediate, cycles := 2 },
    { mnemonic := .TXA, mode := .implied, cycles := 2 },
    { mnemonic := .XAA, mode := .immediate, cycles := 2 },
    { mnemonic := .STY, mode := .absolute, cycles := 4 },
    { mnemonic := .STA, mode := .absolute, cycles := 4 },
    { mnemonic := .STX, mode := .absolute, cycles := 4 },
    { mnemonic := .SAX, mode := .absolute, cycles := 4 } ]

/-- The rows of the bytes 0x90 to 0x9F. -/
def rows9 : List TableRow :=
  [
    { mnemonic := .BCC, mode := .relative, cycles := 2 },
    { mnemonic := .STA, mode := .indirectIndexedY false, cycles := 6 },
    { mnemonic := .HLT, mode := .implied, cycles := hltCyclesByte },
    { mnemonic := .AHX, mode := .indirectIndexedY false, cycles := 6 },
    { mnemonic := .STY, mode := .zeropageIndexedX, cycles := 4 },
    { mnemonic := .STA, mode := .zeropageIndexedX, cycles := 4 },
    { mnemonic := .STX, mode := .zeropageIndexedY, cycles := 4 },
    { mnemonic := .SAX, mode := .zeropageIndexedY, cycles := 4 },
    { mnemonic := .TYA, mode := .implied, cycles := 2 },
    { mnemonic := .STA, mode := .absoluteIndexedY false, cycles := 5 },
    { mnemonic := .TXS, mode := .implied, cycles := 2 },
    { mnemonic := .TAS, mode := .absoluteIndexedY false, cycles := 5 },
    { mnemonic := .SHY, mode := .absoluteIndexedX false, cycles := 5 },
    { mnemonic := .STA, mode := .absoluteIndexedX false, cycles := 5 },
    { mnemonic := .SHX, mode := .absoluteIndexedY false, cycles := 5 },
    { mnemonic := .AHX, mode := .absoluteIndexedY false, cycles := 5 } ]

/-- The rows of the bytes 0xA0 to 0xAF. -/
def rowsA : List TableRow :=
  [
    { mnemonic := .LDY, mode := .immediate, cycles := 2 },
    { mnemonic := .LDA, mode := .indexedIndirectX, cycles := 6 },
    { mnemonic := .LDX, mode := .immediate, cycles := 2 },
    { mnemonic := .LAX, mode := .indexedIndirectX, cycles := 6 },
    { mnemonic := .LDY, mode := .zeropage, cycles := 3 },
    { mnemonic := .LDA, mode := .zeropage, cycles := 3 },
    { mnemonic := .LDX, mode := .zeropage, cycles := 3 },
    { mnemonic := .LAX, mode := .zeropage, cycles := 3 },
    { mnemonic := .TAY, mode := .implied, cycles := 2 },
    { mnemonic := .LDA, mode := .immediate, cycles := 2 },
    { mnemonic := .TAX, mode := .implied, cycles := 2 },
    { mnemonic := .LAX, mode := .immediate, cycles := 2 },
    { mnemonic := .LDY, mode := .absolute, cycles := 4 },
    { mnemonic := .LDA, mode := .absolute, cycles := 4 },
    { mnemonic := .LDX, mode := .absolute, cycles := 4 },
    { mnemonic := .LAX, mode := .absolute, cycles := 4 } ]

/-- The rows of the bytes 0xB0 to 0xBF. -/
def rowsB : List TableRow :=
  [
    { mnemonic := .BCS, mode := .relative, cycles := 2 },
    { mnemonic := .LDA, mode := .indirectIndexedY true, cycles := 5 },
    { mnemonic := .HLT, mode := .implied, cycles := hltCyclesByte },
    { mnemonic := .LAX, mode := .indirectIndexedY true, cycles := 5 },
    { mnemonic := .LDY, mode := .zeropageIndexedX, cycles := 4 },
    { mnemonic := .LDA, mode := .zeropageIndexedX, cycles := 4 },
    { mnemonic := .LDX, mode := .zeropageIndexedY, cycles := 4 },
    { mnemonic := .LAX, mode := .zeropageIndexedY, cycles := 4 },
    { mnemonic := .CLV, mode := .implied, cycles := 2 },
    { mnemonic := .LDA, mode := .absoluteIndexedY true, cycles := 4 },
    { mnemonic := .TSX, mode := .implied, cycles := 2 },
    { mnemonic := .LAS, mode := .absoluteIndexedY true, cycles := 4 },
    { mnemonic := .LDY, mode := .absoluteIndexedX true, cycles := 4 },
    { mnemonic := .LDA, mode := .absoluteIndexedX true, cycles := 4 },
    { mnemonic := .LDX, mode := .absoluteIndexedY true, cycles := 4 },
    { mnemonic := .LAX, mode := .absoluteIndexedY true, cycles := 4 } ]

/-- The rows of the bytes 0xC0 to 0xCF. -/
def rowsC : List TableRow :=
  [
    { mnemonic := .CPY, mode := .immediate, cycles := 2 },
    { mnemonic := .CMP, mode := .indexedIndirectX, cycles := 6 },
    { mnemonic := .NOP, mode := .immediate, cycles := 2 },
    { mnemonic := .DCP, mode := .indexedIndirectX, cycles := 8 },
    { mnemonic := .CPY, mode := .zeropage, cycles := 3 },
    { mnemonic := .CMP, mode := .zeropage, cycles := 3 },
    { mnemonic := .DEC, mode := .zeropage, cycles := 5 },
    { mnemonic := .DCP, mode := .zeropage, cycles := 5 },
    { mnemonic := .INY, mode := .implied, cycles := 2 },
    { mnemonic := .CMP, mode := .immediate, cycles := 2 },
    { mnemonic := .DEX, mode := .implied, cycles := 2 },
    { mnemonic := .AXS, mode := .immediate, cycles := 2 },
    { mnemonic := .CPY, mode := .absolute, cycles := 4 },
    { mnemonic := .CMP, mode := .absolute, cycles := 4 },
    { mnemonic := .DEC, mode := .absolute, cycles := 6 },
    { mnemonic := .DCP, mode := .absolute, cycles := 6 } ]

/-- The rows of the bytes 0xD0 to 0xDF. -/
def rowsD : List TableRow :=
  [
    { mnemonic := .BNE, mode := .relative, cycles := 2 },
    { mnemonic := .CMP, mode := .indirectIndexedY true, cycles := 5 },
    { mnemonic := .HLT, mode := .implied, cycles := hltCyclesByte },
    { mnemonic := .DCP, mode := .indirectIndexedY false, cycles := 8 },
    { mnemonic := .NOP, mode := .zeropageIndexedX, cycles := 4 },
    { mnemonic := .CMP, mode := .zeropageIndexedX, cycles := 4 },
    { mnemonic := .DEC, mode := .zeropageIndexedX, cycles := 6 },
    { mnemonic := .DCP, mode := .zeropageIndexedX, cycles := 6 },
    { mnemonic := .CLD, mode := .implied, cycles := 2 },
    { mnemonic := .CMP, mode := .absoluteIndexedY true, cycles := 4 },
    { mnemonic := .NOP, mode := .implied, cycles := 2 },
    { mnemonic := .DCP, mode := .absoluteIndexedY false, cycles := 7 },
    { mnemonic := .NOP, mode := .absoluteIndexedX true, cycles := 4 },
    { mnemonic := .CMP, mode := .absoluteIndexedX true, cycles := 4 },
    { mnemonic := .DEC, mode := .absoluteIndexedX false, cycles := 7 },
    { mnemonic := .DCP, mode := .absoluteIndexedX false, cycles := 7 } ]

/-- The rows of the bytes 0xE0 to 0xEF. -/
def rowsE : List TableRow :=
  [
    { mnemonic := .CPX, mode := .immediate, cycles := 2 },
    { mnemonic := .SBC, mode := .indexedIndirectX, cycles := 6 },
    { mnemonic := .NOP, mode := .immediate, cycles := 2 },
    { mnemonic := .ISC, mode := .indexedIndirectX, cycles := 8 },
    { mnemonic := .CPX, mode := .zeropage, cycles := 3 },
    { mnemonic := .SBC, mode := .zeropage, cycles := 3 },
    { mnemonic := .INC, mode := .zeropage, cycles := 5 },
    { mnemonic := .ISC, mode := .zeropage, cycles := 5 },
    { mnemonic := .INX, mode := .implied, cycles := 2 },
    { mnemonic := .SBC, mode := .immediate, cycles := 2 },
    { mnemonic := .NOP, mode := .implied, cycles := 2 },
    { mnemonic := .SBC, mode := .immediate, cycles := 2 },
    { mnemonic := .CPX, mode := .absolute, cycles := 4 },
    { mnemonic := .SBC, mode := .absolute, cycles := 4 },
    { mnemonic := .INC, mode := .absolute, cycles := 6 },
    { mnemonic := .ISC, mode := .absolute, cycles := 6 } ]

/-- The rows of the bytes 0xF0 to 0xFF. -/
def rowsF : List TableRow :=
  [
    { mnemonic := .BEQ, mode := .relative, cycles := 2 },
    { mnemonic := .SBC, mode := .indirectIndexedY true, cycles := 5 },
    { mnemonic := .HLT, mode := .implied, cycles := hltCyclesByte },
    { mnemonic := .ISC, mode := .indirectIndexedY false, cycles := 8 },
    { mnemonic := .NOP, mode := .zeropageIndexedX, cycles := 4 },
    { mnemonic := .SBC, mode := .zeropageIndexedX, cycles := 4 },
    { mnemonic := .INC, mode := .zeropageIndexedX, cycles := 6 },
    { mnemonic := .ISC, mode := .zeropageIndexedX, cycles := 6 },
    { mnemonic := .SED, mode := .implied, cycles := 2 },
    { mnemonic := .SBC, mode := .absoluteIndexedY true, cycles := 4 },
    { mnemonic := .NOP, mode := .implied, cycles := 2 },
    { mnemonic := .ISC, mode := .absoluteIndexedY false, cycles := 7 },
    { mnemonic := .NOP, mode := .absoluteIndexedX true, cycles := 4 },
    { mnemonic := .SBC, mode := .absoluteIndexedX true, cycles := 4 },
    { mnemonic := .INC, mode := .absoluteIndexedX false, cycles := 7 },
    { mnemonic := .ISC, mode := .absoluteIndexedX false, cycles := 7 } ]

/-- The 256 rows, by the high and the low digit of the byte. -/
def tablePages : List (List TableRow) :=
  [rows0, rows1, rows2, rows3, rows4, rows5, rows6, rows7, rows8, rows9, rowsA, rowsB, rowsC, rowsD, rowsE,
  rowsF]



theorem tablePage_length : ∀ k : Fin 16, (tablePages[k.val]'(by exact k.isLt)).length = 16 := by decide

/-- `T256[b]`: total (R63), so no catch-all arm (R72). -/
def t256 (b : Byte) : TableRow :=
  have hi : b.toNat / 16 < 16 := by have := b.isLt; omega
  (tablePages[b.toNat / 16]'(by exact hi))[b.toNat % 16]'(by
    rw [tablePage_length ⟨b.toNat / 16, hi⟩]; omega)

end Sys2Proof.Machine
end

