-- ==== Sys2Proof/WellFormed.lean ====
section
/-!
DEFINITION. Well-formed records: the invariants a decoded record meets (40_decode.md R108, 10_state.md R31, R32).

Every term of `Instr` is well formed: its operand bytes have their widths in their types, and no opcode byte is
reserved (30_encoding.md R71). So there is no check on `Instr`, and claims about instructions are about all of them.
What can be ill-formed is a record.
-/

namespace Sys2Proof

/-- The modes without an operand (10_state.md R28). -/
def AddressingMode.hasNoOperand : AddressingMode → Bool
  | .implied | .accumulator => true
  | .immediate | .zeropage | .zeropageIndexedX | .zeropageIndexedY | .absolute | .absoluteIndexedX _
  | .absoluteIndexedY _ | .indirect | .indexedIndirectX | .indirectIndexedY _ | .relative => false

/-- The seven modes of format F2, with one operand byte (30_encoding.md R60). -/
def AddressingMode.hasOneByteOperand : AddressingMode → Bool
  | .immediate | .zeropage | .zeropageIndexedX | .zeropageIndexedY | .relative | .indexedIndirectX
  | .indirectIndexedY _ => true
  | .implied | .accumulator | .absolute | .absoluteIndexedX _ | .absoluteIndexedY _ | .indirect => false

/-- The mode makes an extra cycle possible: `Relative`, or a mode that carries `p = true` (R108(c)). -/
def AddressingMode.mayCostExtra : AddressingMode → Bool
  | .relative => true
  | .absoluteIndexedX p | .absoluteIndexedY p | .indirectIndexedY p => p
  | .implied | .accumulator | .immediate | .zeropage | .zeropageIndexedX | .zeropageIndexedY | .absolute
  | .indirect | .indexedIndirectX => false

namespace Record

/-- R108(a): the operand is absent exactly for `Implied` and `Accumulator`. -/
def operandPresenceOk (r : Record) : Bool := r.operand.isNone == r.addressingMode.hasNoOperand

/-- R108(b): the operand of a mode with one operand byte is below 0x100. -/
def operandWidthOk (r : Record) : Bool :=
  !r.addressingMode.hasOneByteOperand || (r.operand.all fun v => v.toNat < 0x100)

/-- R108(c): `extra_cycle` is what the mode says. -/
def extraCycleOk (r : Record) : Bool := r.extraCycle == r.addressingMode.mayCostExtra

/-- R108(e): `cycles` is at most 8. -/
def cyclesOk (r : Record) : Bool := r.cycles.toNat ≤ 8

/-- R31, R32: no set of the record is `Some` of the empty set. -/
def setsOk (r : Record) : Bool :=
  r.registersRead != some RegSet.empty && r.registersWritten != some RegSet.empty &&
    r.affectedFlags != some FlagSet.empty

/-- R108(a) and R108(b) together. -/
def operandOk (r : Record) : Bool := r.operandPresenceOk && r.operandWidthOk

/-- Every check on the form of a record; that its constants are its opcode byte's is `recordMatchesTable` (Safety.lean). -/
def wellFormed (r : Record) : Bool := r.operandOk && r.extraCycleOk && r.cyclesOk && r.setsOk

end Record

end Sys2Proof
end

