-- ==== Sys2Proof/Machine/Formatter.lean ====
section
/-!
DEFINITION. The instruction formatter (44_formatter.md): three combinational outputs, each a pure function of one
record (R230). Every output refuses a record outside the formatter's domain, the records that `Decode` can produce (R239).
-/

namespace Sys2Proof.Machine

/-! ### Hexadecimal (R231) -/

/-- The sixteen digits, letters in upper case (R231, 92 D19). -/
def hexDigits : List Char := ['0', '1', '2', '3', '4', '5', '6', '7', '8', '9', 'A', 'B', 'C', 'D', 'E', 'F']

/-- The digit of a 4-bit value. -/
def hexDigit (d : BitVec 4) : Char := hexDigits[d.toNat]'d.isLt

/-- `hex2(v)`: two digits, zero-padded (R231). -/
def hex2 (v : Byte) : Text := [hexDigit (v.extractLsb' 4 4), hexDigit (v.extractLsb' 0 4)]

/-- `hex4(v)`: four digits, zero-padded (R231). -/
def hex4 (v : Word) : Text := hex2 (highByte v) ++ hex2 (lowByte v)

/-! ### Mnemonics (R234) -/

/-- The three upper-case letters of a mnemonic (30_encoding.md R64). -/
def mnemonicText : Mnemonic → Text
  | .ADC => ['A', 'D', 'C']
  | .AND => ['A', 'N', 'D']
  | .ASL => ['A', 'S', 'L']
  | .BCC => ['B', 'C', 'C']
  | .BCS => ['B', 'C', 'S']
  | .BEQ => ['B', 'E', 'Q']
  | .BIT => ['B', 'I', 'T']
  | .BMI => ['B', 'M', 'I']
  | .BNE => ['B', 'N', 'E']
  | .BPL => ['B', 'P', 'L']
  | .BRK => ['B', 'R', 'K']
  | .BVC => ['B', 'V', 'C']
  | .BVS => ['B', 'V', 'S']
  | .CLC => ['C', 'L', 'C']
  | .CLD => ['C', 'L', 'D']
  | .CLI => ['C', 'L', 'I']
  | .CLV => ['C', 'L', 'V']
  | .CMP => ['C', 'M', 'P']
  | .CPX => ['C', 'P', 'X']
  | .CPY => ['C', 'P', 'Y']
  | .DEC => ['D', 'E', 'C']
  | .DEX => ['D', 'E', 'X']
  | .DEY => ['D', 'E', 'Y']
  | .EOR => ['E', 'O', 'R']
  | .INC => ['I', 'N', 'C']
  | .INX => ['I', 'N', 'X']
  | .INY => ['I', 'N', 'Y']
  | .JMP => ['J', 'M', 'P']
  | .JSR => ['J', 'S', 'R']
  | .LDA => ['L', 'D', 'A']
  | .LDX => ['L', 'D', 'X']
  | .LDY => ['L', 'D', 'Y']
  | .LSR => ['L', 'S', 'R']
  | .NOP => ['N', 'O', 'P']
  | .ORA => ['O', 'R', 'A']
  | .PHA => ['P', 'H', 'A']
  | .PHP => ['P', 'H', 'P']
  | .PLA => ['P', 'L', 'A']
  | .PLP => ['P', 'L', 'P']
  | .ROL => ['R', 'O', 'L']
  | .ROR => ['R', 'O', 'R']
  | .RTI => ['R', 'T', 'I']
  | .RTS => ['R', 'T', 'S']
  | .SBC => ['S', 'B', 'C']
  | .SEC => ['S', 'E', 'C']
  | .SED => ['S', 'E', 'D']
  | .SEI => ['S', 'E', 'I']
  | .STA => ['S', 'T', 'A']
  | .STX => ['S', 'T', 'X']
  | .STY => ['S', 'T', 'Y']
  | .TAX => ['T', 'A', 'X']
  | .TAY => ['T', 'A', 'Y']
  | .TSX => ['T', 'S', 'X']
  | .TXA => ['T', 'X', 'A']
  | .TXS => ['T', 'X', 'S']
  | .TYA => ['T', 'Y', 'A']
  | .HLT => ['H', 'L', 'T']
  | .SLO => ['S', 'L', 'O']
  | .ANC => ['A', 'N', 'C']
  | .RLA => ['R', 'L', 'A']
  | .SRE => ['S', 'R', 'E']
  | .RRA => ['R', 'R', 'A']
  | .ALR => ['A', 'L', 'R']
  | .SAX => ['S', 'A', 'X']
  | .XAA => ['X', 'A', 'A']
  | .AHX => ['A', 'H', 'X']
  | .TAS => ['T', 'A', 'S']
  | .SHY => ['S', 'H', 'Y']
  | .SHX => ['S', 'H', 'X']
  | .ARR => ['A', 'R', 'R']
  | .LAX => ['L', 'A', 'X']
  | .LAS => ['L', 'A', 'S']
  | .DCP => ['D', 'C', 'P']
  | .AXS => ['A', 'X', 'S']
  | .ISC => ['I', 'S', 'C']

/-! ### The relative target (R236) -/

/-- `address +16 2 +16 sext_16(v[7:0])` (R236). -/
def relTargetOf (address v : Word) : Word := address + 2 + sext16 (lowByte v)

/-! ### The texts of a record's fields. `v` is the record's operand value; a mode without an operand ignores it. -/

/-- The 6-character operand field of the hex rendering (R232): the field is chosen by the mode's operand byte count,
and the bytes stand in the order of the buffer. -/
def hexOperandField (mode : AddressingMode) (v : Word) : Text :=
  match operandCount mode with
  | 0 => [' ', ' ', ' ', ' ', ' ', ' ']
  | 1 => ' ' :: hex2 (lowByte v) ++ [' ', ' ', ' ']
  | _ => ' ' :: hex2 (lowByte v) ++ ' ' :: hex2 (highByte v)

/-- `OperandText` (R235): the page-cross boolean does not change the text. -/
def operandText (mode : AddressingMode) (address v : Word) : Text :=
  match mode with
  | .implied => []
  | .accumulator => ['A']
  | .immediate => ['#', '$'] ++ hex2 (lowByte v)
  | .zeropage => ['$'] ++ hex2 (lowByte v)
  | .zeropageIndexedX => ['$'] ++ hex2 (lowByte v) ++ [',', 'X']
  | .zeropageIndexedY => ['$'] ++ hex2 (lowByte v) ++ [',', 'Y']
  | .absolute => ['$'] ++ hex4 v
  | .absoluteIndexedX _ => ['$'] ++ hex4 v ++ [',', 'X']
  | .absoluteIndexedY _ => ['$'] ++ hex4 v ++ [',', 'Y']
  | .indirect => ['(', '$'] ++ hex4 v ++ [')']
  | .indexedIndirectX => ['(', '$'] ++ hex2 (lowByte v) ++ [',', 'X', ')']
  | .indirectIndexedY _ => ['(', '$'] ++ hex2 (lowByte v) ++ [')', ',', 'Y']
  | .relative => ['$'] ++ hex4 (relTargetOf address v)

/-- The operand value of a record; only the modes with an operand use it. -/
def operandValue (r : Record) : Word := r.operand.getD 0

/-- The hex rendering of a record in the formatter's domain (R232). -/
def hexText (r : Record) : Text := hex2 r.opcode.rawByte ++ hexOperandField r.addressingMode (operandValue r)

/-- A mnemonic and an operand text: one space between them, and none where the text is empty (R234, 92 D21). -/
def joinOperand (mnemonic : Text) : Text → Text
  | [] => mnemonic
  | c :: rest => mnemonic ++ ' ' :: c :: rest

/-- The mnemonic rendering of a record in the formatter's domain (R234). -/
def asmText (r : Record) : Text :=
  joinOperand (mnemonicText r.opcode.mnemonic) (operandText r.addressingMode r.address (operandValue r))

/-- The display line of a record in the formatter's domain (R238). -/
def displayText (r : Record) : Text :=
  '$' :: hex4 r.address ++ [':', ' '] ++ hexText r ++ ' ' :: asmText r

/-! ### The outputs -/

/-- The formatter's domain (R239, 92 D24): `Decode` can produce the record. Its operand meets R108(a) and R108(b), and
every other field but the caller's address is what `Decode` builds from the record's own opcode byte (40_decode.md R104). -/
def decodable (r : Record) : Bool :=
  let row := t256 r.opcode.rawByte
  r.operandOk &&
    decide (r = buildRecord r.address r.opcode.rawByte row.mnemonic row.mode row.cycles r.operand)

/-- An output on its domain: a record that `Decode` could not have produced is refused, with no text (R239, 92 D24). -/
def formatOn {α : Type} (render : Record → α) (r : Record) : Except Refusal α :=
  if decodable r then .ok (render r) else .error .formatOutsideDomain

/-- `AsHexStr(rec)` (R232). -/
def asHexStr (r : Record) : Except Refusal Text := formatOn hexText r

/-- `AsStr(rec)` (R234). -/
def asStr (r : Record) : Except Refusal Text := formatOn asmText r

/-- `Display(rec)` (R238). -/
def display (r : Record) : Except Refusal Text := formatOn displayText r

/-- `RelTarget(rec)` of a `Relative` record (R236); a record of another mode has none (R240; log entry 11). -/
def relTarget (r : Record) : Option (Except Refusal Word) :=
  if r.addressingMode = .relative then some (formatOn (fun r => relTargetOf r.address (operandValue r)) r) else none

/-- The three outputs on the machine's output latch; there is none before the first decode completes (R281). -/
def State.asHexStr (s : State) : Option (Except Refusal Text) := s.record.map Sys2Proof.Machine.asHexStr

def State.asStr (s : State) : Option (Except Refusal Text) := s.record.map Sys2Proof.Machine.asStr

def State.display (s : State) : Option (Except Refusal Text) := s.record.map Sys2Proof.Machine.display

end Sys2Proof.Machine
end

