-- ==== Sys2Proof/Machine/Transaction.lean ====
section
/-!
DEFINITION. The block's operation `Decode(target_address, cursor, buf) -> (record, cursor')` as its caller sees it,
written line by line from the spec's pseudocode (40_decode.md R101, R102) over table T256. The machine's `step`
reaches the same result by decoding an instruction and running its meaning; that the two agree is a claim.
-/

namespace Sys2Proof.Machine

/-- `FetchOperand(mode, p)` (R102): the operand, the extra-cycle boolean and the advanced cursor. -/
def fetchOperand (m : Memory) (mode : AddressingMode) (cursor : Nat) : Option Word × Bool × Nat :=
  let cursor := cursor + 1
  match mode with
  | .implied => (none, false, cursor)
  | .accumulator => (none, false, cursor)
  | .absolute => let (v, cursor) := m.readWordLE cursor; (some v, false, cursor + 1)
  | .indirect => let (v, cursor) := m.readWordLE cursor; (some v, false, cursor + 1)
  | .absoluteIndexedX p => let (v, cursor) := m.readWordLE cursor; (some v, p, cursor + 1)
  | .absoluteIndexedY p => let (v, cursor) := m.readWordLE cursor; (some v, p, cursor + 1)
  | .zeropage => (some (m.readByte cursor), false, cursor + 1)
  | .zeropageIndexedX => (some (m.readByte cursor), false, cursor + 1)
  | .zeropageIndexedY => (some (m.readByte cursor), false, cursor + 1)
  | .immediate => (some (m.readByte cursor), false, cursor + 1)
  | .indexedIndirectX => (some (m.readByte cursor), false, cursor + 1)
  | .relative => (some (m.readByte cursor), true, cursor + 1)
  | .indirectIndexedY p => (some (m.readByte cursor), p, cursor + 1)

/-- `Decode` (R101): the fault is tested before any read; otherwise the record and the advanced cursor. -/
def decodeTransaction (targetAddress : Word) (cursor : Nat) (m : Memory) :
    Host.Outcome (Record × Nat) Fault Refusal :=
  if m.length ≤ cursor then .fault (.decodePrecondition cursor)
  else
    let b := m.opcodeByte cursor
    let row := t256 b
    let (operand, extra, cursor') := fetchOperand m row.mode cursor
    .next
      ({ opcode := { mnemonic := row.mnemonic, rawByte := b }
         addressingMode := row.mode
         address := targetAddress
         cycles := row.cycles
         operand := operand
         extraCycle := extra
         registersRead := regsRead row.mnemonic row.mode
         registersWritten := regsWritten row.mnemonic row.mode
         affectedFlags := affectedFlags row.mnemonic
         illegal := inIllegalSet b }, cursor')

end Sys2Proof.Machine
end

