-- ==== Sys2Proof/Safety.lean ====
section
/-!
DEFINITION. What counts as a safe state, a safe run and a sound state, in the terms the claims use.
-/

namespace Sys2Proof.Machine

/-- What the caller must see to before a decode: `cursor < L` (70_reset_and_hazards.md R282). -/
def State.mayDecode (s : State) : Prop := s.cursor < s.mem.length

/-- `k` decodes from `s` complete, ending in `t`: no fault and no refusal. -/
def SafeRun (k : Nat) (s t : State) : Prop := Host.Core.run core k s = .next t

/-- The record's constants are those of its opcode byte (40_decode.md R104): mnemonic, mode and cycles from table
T256, the sets from the resolvers, `illegal` from the illegal set. -/
def recordMatchesTable (r : Record) : Prop :=
  let row := t256 r.opcode.rawByte
  r.opcode.mnemonic = row.mnemonic ∧ r.addressingMode = row.mode ∧ r.cycles = row.cycles ∧
    r.registersRead = regsRead row.mnemonic row.mode ∧ r.registersWritten = regsWritten row.mnemonic row.mode ∧
    r.affectedFlags = affectedFlags row.mnemonic ∧ r.illegal = inIllegalSet r.opcode.rawByte

/-- A sound state: the buffer is in its canonical form, and a latched record is well formed and is its opcode byte's. -/
def State.Inv (s : State) : Prop :=
  s.mem.wf = true ∧ ∀ r, s.record = some r → r.wellFormed = true ∧ recordMatchesTable r

end Sys2Proof.Machine
end

