-- ==== Sys2Proof/Certificates/Slice0/Obligations.lean ====
section
/-!
DEFINITION. The statements for the provers. Rule numbers are those of spec/. Where a statement restates a table of the
spec, the table is written out here again, transposed or row by row, so that it does not lean on the model's own.
-/

namespace Sys2Proof.Claims

open Sys2Proof Sys2Proof.Machine

/-- `zext_16` (R8). -/
def zeroExtended (v : Byte) : Word := v.setWidth 16

/-- The word whose low byte is `ll` and whose high byte is `hh` (R45): `256 * hh + ll`. -/
def littleEndian (ll hh : Byte) : Word := BitVec.ofNat 16 (256 * hh.toNat + ll.toNat)

/-- Membership of a tag in a reported set; an absent set has no member. -/
def hasRegister (t : RegisterTag) : Option RegSet → Bool
  | none => false
  | some s => match t with | .A => s.a | .X => s.x | .Y => s.y

def hasFlag (t : FlagTag) : Option FlagSet → Bool
  | none => false
  | some s => match t with | .N => s.n | .V => s.v | .B => s.b | .D => s.d | .I => s.i | .Z => s.z | .C => s.c

/-- The record of a row of the per-byte tables of files 41, 42 and 43, at a target address. -/
def rowRecord (mn : Mnemonic) (b : Byte) (mode : AddressingMode) (cycles : Byte) (operand : Option Word) (extra : Bool)
    (read written : Option (List RegisterTag)) (affected : Option (List FlagTag)) (illegal : Bool) (address : Word) :
    Record :=
  { opcode := { mnemonic := mn, rawByte := b }, addressingMode := mode, address := address, cycles := cycles
    operand := operand, extraCycle := extra, registersRead := read.map regs, registersWritten := written.map regs
    affectedFlags := affected.map flags, illegal := illegal }

/-- The 8-character hex string of an opcode byte and its operand bytes in buffer order (R232). -/
def hexLine (b : Byte) (operandBytes : List Byte) : Text :=
  hex2 b ++ (operandBytes.map fun v => ' ' :: hex2 v).flatten ++ List.replicate (6 - 3 * operandBytes.length) ' '

/-- The buffer has the opcode byte `b` at the cursor, and after it reads as the operand bytes: a byte beyond the end
reads as zero (R41, R103), so a truncated instruction with zero operand bytes counts. -/
def BufferHolds (s : State) (b : Byte) (operandBytes : List Byte) : Prop :=
  s.cursor < s.mem.length ∧ s.mem.opcodeByte s.cursor = b ∧
    ∀ k v, operandBytes[k]? = some v → s.mem.readByte (s.cursor + 1 + k) = zeroExtended v

/-- What an instruction rule of files 41, 42 and 43 says of one row: the encoding; the record and the cursor of a decode,
nothing else changing; the fault at `cursor >= L` and only there; that a buffer holding the bytes decodes to it, a
truncated one included; and the two strings. -/
def RowHolds (i : Instr) (operandBytes : List Byte) (rec : Word → Record) (text : Word → Text) : Prop :=
  encode i = (rec 0).opcode.rawByte :: operandBytes ∧
  (∀ s : State, s.cursor < s.mem.length →
    exec i s = .next { s with cursor := s.cursor + (1 + operandBytes.length), record := some (rec s.targetAddress) }) ∧
  (∀ s : State, s.mem.length ≤ s.cursor → exec i s = .fault (.decodePrecondition s.cursor)) ∧
  (∀ s : State, BufferHolds s (rec 0).opcode.rawByte operandBytes → step s = exec i s) ∧
  (∀ a, asStr (rec a) = .ok (text a)) ∧
  (∀ a, asHexStr (rec a) = .ok (hexLine (rec a).opcode.rawByte operandBytes))

/-- The documented opcode bytes, in the order of R68 (part). -/
def documentedBytes0 : List Byte :=
  [0x00, 0x01, 0x05, 0x06, 0x08, 0x09, 0x0A, 0x0D, 0x0E, 0x10, 0x11, 0x15, 0x16, 0x18, 0x19, 0x1D, 0x1E, 0x20,
  0x21, 0x24, 0x25, 0x26, 0x28, 0x29, 0x2A, 0x2C, 0x2D, 0x2E, 0x30, 0x31, 0x35, 0x36, 0x38, 0x39, 0x3D, 0x3E,
  0x40, 0x41, 0x45, 0x46]

/-- The documented opcode bytes, in the order of R68 (part). -/
def documentedBytes1 : List Byte :=
  [0x48, 0x49, 0x4A, 0x4C, 0x4D, 0x4E, 0x50, 0x51, 0x55, 0x56, 0x58, 0x59, 0x5D, 0x5E, 0x60, 0x61, 0x65, 0x66,
  0x68, 0x69, 0x6A, 0x6C, 0x6D, 0x6E, 0x70, 0x71, 0x75, 0x76, 0x78, 0x79, 0x7D, 0x7E, 0x81, 0x84, 0x85, 0x86,
  0x88, 0x8A, 0x8C, 0x8D]

/-- The documented opcode bytes, in the order of R68 (part). -/
def documentedBytes2 : List Byte :=
  [0x8E, 0x90, 0x91, 0x94, 0x95, 0x96, 0x98, 0x99, 0x9A, 0x9D, 0xA0, 0xA1, 0xA2, 0xA4, 0xA5, 0xA6, 0xA8, 0xA9,
  0xAA, 0xAC, 0xAD, 0xAE, 0xB0, 0xB1, 0xB4, 0xB5, 0xB6, 0xB8, 0xB9, 0xBA, 0xBC, 0xBD, 0xBE, 0xC0, 0xC1, 0xC4,
  0xC5, 0xC6, 0xC8, 0xC9]

/-- The documented opcode bytes, in the order of R68 (part). -/
def documentedBytes3 : List Byte :=
  [0xCA, 0xCC, 0xCD, 0xCE, 0xD0, 0xD1, 0xD5, 0xD6, 0xD8, 0xD9, 0xDD, 0xDE, 0xE0, 0xE1, 0xE4, 0xE5, 0xE6, 0xE8,
  0xE9, 0xEA, 0xEC, 0xED, 0xEE, 0xF0, 0xF1, 0xF5, 0xF6, 0xF8, 0xF9, 0xFD, 0xFE]

/-- The 151 documented opcode bytes (R68). -/
def documentedBytes : List Byte := documentedBytes0 ++ documentedBytes1 ++ documentedBytes2 ++ documentedBytes3

/-- The 19 undocumented mnemonics (R64). -/
def undocumentedMnemonics : List Mnemonic :=
  [.HLT, .SLO, .ANC, .RLA, .SRE, .RRA, .ALR, .SAX, .XAA, .AHX, .TAS, .SHY, .SHX, .ARR, .LAX, .LAS, .DCP, .AXS, .ISC]

/-- The mnemonics whose record reports each register as read data, and as written data (the table of R105, by register). -/
def readsA : List Mnemonic :=
  [.ADC, .AHX, .ALR, .ANC, .AND, .ARR, .AXS, .BIT, .CMP, .DCP, .EOR, .ISC, .ORA, .PHA, .RLA, .RRA, .SAX, .SBC, .SLO,
  .SRE, .STA, .TAS, .TAX, .TAY, .XAA]
def readsX : List Mnemonic := [.AHX, .AXS, .CPX, .DEX, .INX, .SAX, .SHX, .STX, .TAS, .TXA, .TXS, .XAA]
def readsY : List Mnemonic := [.CPY, .DEY, .INY, .SHY, .STY, .TYA]
def writesA : List Mnemonic :=
  [.ADC, .ALR, .ANC, .AND, .ARR, .EOR, .ISC, .LAS, .LAX, .LDA, .ORA, .PLA, .RLA, .RRA, .SBC, .SLO, .SRE, .TXA, .TYA,
  .XAA]
def writesX : List Mnemonic := [.AXS, .DEX, .INX, .LAS, .LAX, .LDX, .TAX, .TSX]
def writesY : List Mnemonic := [.DEY, .INY, .LDY, .TAY]

/-- The mnemonics that may alter each flag (the table of R106, by flag). -/
def altersN : List Mnemonic :=
  [.ADC, .ANC, .AND, .ASL, .BIT, .CMP, .CPX, .CPY, .DCP, .DEC, .DEX, .DEY, .EOR, .INC, .INX, .INY, .ISC, .LAX, .LDA,
  .LDX, .LDY, .LSR, .ORA, .PLA, .PLP, .RLA, .ROL, .ROR, .RRA, .RTI, .SBC, .SLO, .SRE, .TAX, .TAY, .TSX, .TXA, .TYA]
def altersV : List Mnemonic := [.ADC, .BIT, .CLV, .ISC, .PLP, .RRA, .RTI, .SBC]
def altersB : List Mnemonic := [.BRK, .PLP, .RTI]
def altersD : List Mnemonic := [.CLD, .PLP, .RTI, .SED]
def altersI : List Mnemonic := [.CLI, .PLP, .RTI, .SEI]
def altersZ : List Mnemonic :=
  [.ADC, .ANC, .AND, .ASL, .BIT, .CMP, .CPX, .CPY, .DCP, .DEC, .DEX, .DEY, .EOR, .INC, .INX, .INY, .ISC, .LAX, .LDA,
  .LDX, .LDY, .LSR, .ORA, .PLA, .PLP, .RLA, .ROL, .ROR, .RRA, .RTI, .SBC, .SLO, .SRE, .TAX, .TAY, .TSX, .TXA, .TYA]
def altersC : List Mnemonic :=
  [.ADC, .ANC, .ASL, .CLC, .CMP, .CPX, .CPY, .DCP, .ISC, .LSR, .PLP, .RLA, .ROL, .ROR, .RRA, .RTI, .SBC, .SEC, .SLO,
  .SRE]

/-- The shifts and rotates, whose accumulator form reads and writes A (R105). -/
def shifts : List Mnemonic := [.ASL, .LSR, .ROL, .ROR]

def indexedByX : AddressingMode → Bool
  | .zeropageIndexedX | .absoluteIndexedX _ | .indexedIndirectX => true
  | _ => false

def indexedByY : AddressingMode → Bool
  | .zeropageIndexedY | .absoluteIndexedY _ | .indirectIndexedY _ => true
  | _ => false

/-- The page-cross boolean a mode carries (R25). -/
def carried : AddressingMode → Option Bool
  | .absoluteIndexedX p | .absoluteIndexedY p | .indirectIndexedY p => some p
  | _ => none

/-- The mnemonics whose indexed rows carry `p = true` (R66). -/
def pageCrossMnemonics : List Mnemonic := [.ADC, .AND, .CMP, .EOR, .LDA, .ORA, .SBC, .LDX, .LDY, .LAX, .LAS, .NOP]

/-- The spelling of each mnemonic (R64). -/
def documentedNames : List (Mnemonic × String) :=
  [(.ADC, "ADC"), (.AND, "AND"), (.ASL, "ASL"), (.BCC, "BCC"), (.BCS, "BCS"), (.BEQ, "BEQ"), (.BIT, "BIT"),
  (.BMI, "BMI"), (.BNE, "BNE"), (.BPL, "BPL"), (.BRK, "BRK"), (.BVC, "BVC"), (.BVS, "BVS"), (.CLC, "CLC"),
  (.CLD, "CLD"), (.CLI, "CLI"), (.CLV, "CLV"), (.CMP, "CMP"), (.CPX, "CPX"), (.CPY, "CPY"), (.DEC, "DEC"),
  (.DEX, "DEX"), (.DEY, "DEY"), (.EOR, "EOR"), (.INC, "INC"), (.INX, "INX"), (.INY, "INY"), (.JMP, "JMP"),
  (.JSR, "JSR"), (.LDA, "LDA"), (.LDX, "LDX"), (.LDY, "LDY"), (.LSR, "LSR"), (.NOP, "NOP"), (.ORA, "ORA"),
  (.PHA, "PHA"), (.PHP, "PHP"), (.PLA, "PLA"), (.PLP, "PLP"), (.ROL, "ROL"), (.ROR, "ROR"), (.RTI, "RTI"),
  (.RTS, "RTS"), (.SBC, "SBC"), (.SEC, "SEC"), (.SED, "SED"), (.SEI, "SEI"), (.STA, "STA"), (.STX, "STX"),
  (.STY, "STY"), (.TAX, "TAX"), (.TAY, "TAY"), (.TSX, "TSX"), (.TXA, "TXA"), (.TXS, "TXS"), (.TYA, "TYA")]
def undocumentedNames : List (Mnemonic × String) :=
  [(.HLT, "HLT"), (.SLO, "SLO"), (.ANC, "ANC"), (.RLA, "RLA"), (.SRE, "SRE"), (.RRA, "RRA"), (.ALR, "ALR"),
  (.SAX, "SAX"), (.XAA, "XAA"), (.AHX, "AHX"), (.TAS, "TAS"), (.SHY, "SHY"), (.SHX, "SHX"), (.ARR, "ARR"),
  (.LAX, "LAX"), (.LAS, "LAS"), (.DCP, "DCP"), (.AXS, "AXS"), (.ISC, "ISC")]

/-- The hexadecimal digit of a number below 16, by its character code. -/
def digit (n : Nat) : Char := if n < 10 then Char.ofNat (48 + n) else Char.ofNat (65 + (n - 10))

/-- A decode of `i` from `s` renders as this hex string. -/
def hexOf (i : Instr) (s : State) (x : String) : Prop :=
  ∀ t r, exec i s = .next t → t.record = some r → asHexStr r = .ok x.toList

/-- `Decode` produces the record: some step latches it. -/
def Produced (r : Record) : Prop := ∃ s t : State, step s = .next t ∧ t.record = some r

/-- A record's assembler text by its mode, from the operand bytes `ll` and `hh` (the table of R235): the mnemonic and,
where the mode has an operand text, a space and that text. -/
def textOf (mn : Mnemonic) (address : Word) (ll hh : Byte) : AddressingMode → Text
  | .implied => mnemonicText mn
  | .accumulator => mnemonicText mn ++ " A".toList
  | .immediate => mnemonicText mn ++ " #$".toList ++ hex2 ll
  | .zeropage => mnemonicText mn ++ " $".toList ++ hex2 ll
  | .zeropageIndexedX => mnemonicText mn ++ " $".toList ++ hex2 ll ++ ",X".toList
  | .zeropageIndexedY => mnemonicText mn ++ " $".toList ++ hex2 ll ++ ",Y".toList
  | .absolute => mnemonicText mn ++ " $".toList ++ hex2 hh ++ hex2 ll
  | .absoluteIndexedX _ => mnemonicText mn ++ " $".toList ++ hex2 hh ++ hex2 ll ++ ",X".toList
  | .absoluteIndexedY _ => mnemonicText mn ++ " $".toList ++ hex2 hh ++ hex2 ll ++ ",Y".toList
  | .indirect => mnemonicText mn ++ " ($".toList ++ hex2 hh ++ hex2 ll ++ ")".toList
  | .indexedIndirectX => mnemonicText mn ++ " ($".toList ++ hex2 ll ++ ",X)".toList
  | .indirectIndexedY _ => mnemonicText mn ++ " ($".toList ++ hex2 ll ++ "),Y".toList
  | .relative => mnemonicText mn ++ " $".toList ++ hex4 (address + 2 + ll.signExtend 16)

end Sys2Proof.Claims

open Sys2Proof Sys2Proof.Machine Sys2Proof.Claims

/-! ### The rows of the opcode table, family by family -/

/-- The rows of LDA, LDX, LDY, STA, STX, STY (R159, R160, R161, R177, R178, R179): record, cursor,
fault, texts and bytes.
The values are the spec's own: [from general knowledge, not in source] and 92 D6 and D8 to D14 (log entry 14). -/
def Obligations.LoadAndStoreRows : Prop :=
  ∀ ll hh : Byte,
    RowHolds (.ldaIzxA1 ll) [ll]
      (rowRecord .LDA 0xA1 .indexedIndirectX 6 (some (zeroExtended ll)) false (some [.X]) (some [.A]) (some [.N, .Z]) false)
      (fun _ => "LDA ($".toList ++ hex2 ll ++ ",X)".toList) ∧
    RowHolds (.ldaZpA5 ll) [ll]
      (rowRecord .LDA 0xA5 .zeropage 3 (some (zeroExtended ll)) false none (some [.A]) (some [.N, .Z]) false)
      (fun _ => "LDA $".toList ++ hex2 ll) ∧
    RowHolds (.ldaImmA9 ll) [ll]
      (rowRecord .LDA 0xA9 .immediate 2 (some (zeroExtended ll)) false none (some [.A]) (some [.N, .Z]) false)
      (fun _ => "LDA #$".toList ++ hex2 ll) ∧
    RowHolds (.ldaAbsAD ll hh) [ll, hh]
      (rowRecord .LDA 0xAD .absolute 4 (some (littleEndian ll hh)) false none (some [.A]) (some [.N, .Z]) false)
      (fun _ => "LDA $".toList ++ hex2 hh ++ hex2 ll) ∧
    RowHolds (.ldaIzyB1 ll) [ll]
      (rowRecord .LDA 0xB1 (.indirectIndexedY true) 5 (some (zeroExtended ll)) true (some [.Y]) (some [.A]) (some [.N, .Z]) false)
      (fun _ => "LDA ($".toList ++ hex2 ll ++ "),Y".toList) ∧
    RowHolds (.ldaZpxB5 ll) [ll]
      (rowRecord .LDA 0xB5 .zeropageIndexedX 4 (some (zeroExtended ll)) false (some [.X]) (some [.A]) (some [.N, .Z]) false)
      (fun _ => "LDA $".toList ++ hex2 ll ++ ",X".toList) ∧
    RowHolds (.ldaAbyB9 ll hh) [ll, hh]
      (rowRecord .LDA 0xB9 (.absoluteIndexedY true) 4 (some (littleEndian ll hh)) true (some [.Y]) (some [.A]) (some [.N, .Z]) false)
      (fun _ => "LDA $".toList ++ hex2 hh ++ hex2 ll ++ ",Y".toList) ∧
    RowHolds (.ldaAbxBD ll hh) [ll, hh]
      (rowRecord .LDA 0xBD (.absoluteIndexedX true) 4 (some (littleEndian ll hh)) true (some [.X]) (some [.A]) (some [.N, .Z]) false)
      (fun _ => "LDA $".toList ++ hex2 hh ++ hex2 ll ++ ",X".toList) ∧
    RowHolds (.ldxImmA2 ll) [ll]
      (rowRecord .LDX 0xA2 .immediate 2 (some (zeroExtended ll)) false none (some [.X]) (some [.N, .Z]) false)
      (fun _ => "LDX #$".toList ++ hex2 ll) ∧
    RowHolds (.ldxZpA6 ll) [ll]
      (rowRecord .LDX 0xA6 .zeropage 3 (some (zeroExtended ll)) false none (some [.X]) (some [.N, .Z]) false)
      (fun _ => "LDX $".toList ++ hex2 ll) ∧
    RowHolds (.ldxAbsAE ll hh) [ll, hh]
      (rowRecord .LDX 0xAE .absolute 4 (some (littleEndian ll hh)) false none (some [.X]) (some [.N, .Z]) false)
      (fun _ => "LDX $".toList ++ hex2 hh ++ hex2 ll) ∧
    RowHolds (.ldxZpyB6 ll) [ll]
      (rowRecord .LDX 0xB6 .zeropageIndexedY 4 (some (zeroExtended ll)) false (some [.Y]) (some [.X]) (some [.N, .Z]) false)
      (fun _ => "LDX $".toList ++ hex2 ll ++ ",Y".toList) ∧
    RowHolds (.ldxAbyBE ll hh) [ll, hh]
      (rowRecord .LDX 0xBE (.absoluteIndexedY true) 4 (some (littleEndian ll hh)) true (some [.Y]) (some [.X]) (some [.N, .Z]) false)
      (fun _ => "LDX $".toList ++ hex2 hh ++ hex2 ll ++ ",Y".toList) ∧
    RowHolds (.ldyImmA0 ll) [ll]
      (rowRecord .LDY 0xA0 .immediate 2 (some (zeroExtended ll)) false none (some [.Y]) (some [.N, .Z]) false)
      (fun _ => "LDY #$".toList ++ hex2 ll) ∧
    RowHolds (.ldyZpA4 ll) [ll]
      (rowRecord .LDY 0xA4 .zeropage 3 (some (zeroExtended ll)) false none (some [.Y]) (some [.N, .Z]) false)
      (fun _ => "LDY $".toList ++ hex2 ll) ∧
    RowHolds (.ldyAbsAC ll hh) [ll, hh]
      (rowRecord .LDY 0xAC .absolute 4 (some (littleEndian ll hh)) false none (some [.Y]) (some [.N, .Z]) false)
      (fun _ => "LDY $".toList ++ hex2 hh ++ hex2 ll) ∧
    RowHolds (.ldyZpxB4 ll) [ll]
      (rowRecord .LDY 0xB4 .zeropageIndexedX 4 (some (zeroExtended ll)) false (some [.X]) (some [.Y]) (some [.N, .Z]) false)
      (fun _ => "LDY $".toList ++ hex2 ll ++ ",X".toList) ∧
    RowHolds (.ldyAbxBC ll hh) [ll, hh]
      (rowRecord .LDY 0xBC (.absoluteIndexedX true) 4 (some (littleEndian ll hh)) true (some [.X]) (some [.Y]) (some [.N, .Z]) false)
      (fun _ => "LDY $".toList ++ hex2 hh ++ hex2 ll ++ ",X".toList) ∧
    RowHolds (.staIzx81 ll) [ll]
      (rowRecord .STA 0x81 .indexedIndirectX 6 (some (zeroExtended ll)) false (some [.A, .X]) none none false)
      (fun _ => "STA ($".toList ++ hex2 ll ++ ",X)".toList) ∧
    RowHolds (.staZp85 ll) [ll]
      (rowRecord .STA 0x85 .zeropage 3 (some (zeroExtended ll)) false (some [.A]) none none false)
      (fun _ => "STA $".toList ++ hex2 ll) ∧
    RowHolds (.staAbs8D ll hh) [ll, hh]
      (rowRecord .STA 0x8D .absolute 4 (some (littleEndian ll hh)) false (some [.A]) none none false)
      (fun _ => "STA $".toList ++ hex2 hh ++ hex2 ll) ∧
    RowHolds (.staIzy91 ll) [ll]
      (rowRecord .STA 0x91 (.indirectIndexedY false) 6 (some (zeroExtended ll)) false (some [.A, .Y]) none none false)
      (fun _ => "STA ($".toList ++ hex2 ll ++ "),Y".toList) ∧
    RowHolds (.staZpx95 ll) [ll]
      (rowRecord .STA 0x95 .zeropageIndexedX 4 (some (zeroExtended ll)) false (some [.A, .X]) none none false)
      (fun _ => "STA $".toList ++ hex2 ll ++ ",X".toList) ∧
    RowHolds (.staAby99 ll hh) [ll, hh]
      (rowRecord .STA 0x99 (.absoluteIndexedY false) 5 (some (littleEndian ll hh)) false (some [.A, .Y]) none none false)
      (fun _ => "STA $".toList ++ hex2 hh ++ hex2 ll ++ ",Y".toList) ∧
    RowHolds (.staAbx9D ll hh) [ll, hh]
      (rowRecord .STA 0x9D (.absoluteIndexedX false) 5 (some (littleEndian ll hh)) false (some [.A, .X]) none none false)
      (fun _ => "STA $".toList ++ hex2 hh ++ hex2 ll ++ ",X".toList) ∧
    RowHolds (.stxZp86 ll) [ll]
      (rowRecord .STX 0x86 .zeropage 3 (some (zeroExtended ll)) false (some [.X]) none none false)
      (fun _ => "STX $".toList ++ hex2 ll) ∧
    RowHolds (.stxAbs8E ll hh) [ll, hh]
      (rowRecord .STX 0x8E .absolute 4 (some (littleEndian ll hh)) false (some [.X]) none none false)
      (fun _ => "STX $".toList ++ hex2 hh ++ hex2 ll) ∧
    RowHolds (.stxZpy96 ll) [ll]
      (rowRecord .STX 0x96 .zeropageIndexedY 4 (some (zeroExtended ll)) false (some [.X, .Y]) none none false)
      (fun _ => "STX $".toList ++ hex2 ll ++ ",Y".toList) ∧
    RowHolds (.styZp84 ll) [ll]
      (rowRecord .STY 0x84 .zeropage 3 (some (zeroExtended ll)) false (some [.Y]) none none false)
      (fun _ => "STY $".toList ++ hex2 ll) ∧
    RowHolds (.styAbs8C ll hh) [ll, hh]
      (rowRecord .STY 0x8C .absolute 4 (some (littleEndian ll hh)) false (some [.Y]) none none false)
      (fun _ => "STY $".toList ++ hex2 hh ++ hex2 ll) ∧
    RowHolds (.styZpx94 ll) [ll]
      (rowRecord .STY 0x94 .zeropageIndexedX 4 (some (zeroExtended ll)) false (some [.X, .Y]) none none false)
      (fun _ => "STY $".toList ++ hex2 ll ++ ",X".toList)

/-- The rows of ADC, SBC, AND, ORA, EOR, BIT (R130, R173, R131, R164, R153, R136): record, cursor,
fault, texts and bytes.
The values are the spec's own: [from general knowledge, not in source] and 92 D6 and D8 to D14 (log entry 14). -/
def Obligations.ArithmeticAndLogicRows : Prop :=
  ∀ ll hh : Byte,
    RowHolds (.adcIzx61 ll) [ll]
      (rowRecord .ADC 0x61 .indexedIndirectX 6 (some (zeroExtended ll)) false (some [.A, .X]) (some [.A]) (some [.N, .V, .Z, .C]) false)
      (fun _ => "ADC ($".toList ++ hex2 ll ++ ",X)".toList) ∧
    RowHolds (.adcZp65 ll) [ll]
      (rowRecord .ADC 0x65 .zeropage 3 (some (zeroExtended ll)) false (some [.A]) (some [.A]) (some [.N, .V, .Z, .C]) false)
      (fun _ => "ADC $".toList ++ hex2 ll) ∧
    RowHolds (.adcImm69 ll) [ll]
      (rowRecord .ADC 0x69 .immediate 2 (some (zeroExtended ll)) false (some [.A]) (some [.A]) (some [.N, .V, .Z, .C]) false)
      (fun _ => "ADC #$".toList ++ hex2 ll) ∧
    RowHolds (.adcAbs6D ll hh) [ll, hh]
      (rowRecord .ADC 0x6D .absolute 4 (some (littleEndian ll hh)) false (some [.A]) (some [.A]) (some [.N, .V, .Z, .C]) false)
      (fun _ => "ADC $".toList ++ hex2 hh ++ hex2 ll) ∧
    RowHolds (.adcIzy71 ll) [ll]
      (rowRecord .ADC 0x71 (.indirectIndexedY true) 5 (some (zeroExtended ll)) true (some [.A, .Y]) (some [.A]) (some [.N, .V, .Z, .C]) false)
      (fun _ => "ADC ($".toList ++ hex2 ll ++ "),Y".toList) ∧
    RowHolds (.adcZpx75 ll) [ll]
      (rowRecord .ADC 0x75 .zeropageIndexedX 4 (some (zeroExtended ll)) false (some [.A, .X]) (some [.A]) (some [.N, .V, .Z, .C]) false)
      (fun _ => "ADC $".toList ++ hex2 ll ++ ",X".toList) ∧
    RowHolds (.adcAby79 ll hh) [ll, hh]
      (rowRecord .ADC 0x79 (.absoluteIndexedY true) 4 (some (littleEndian ll hh)) true (some [.A, .Y]) (some [.A]) (some [.N, .V, .Z, .C]) false)
      (fun _ => "ADC $".toList ++ hex2 hh ++ hex2 ll ++ ",Y".toList) ∧
    RowHolds (.adcAbx7D ll hh) [ll, hh]
      (rowRecord .ADC 0x7D (.absoluteIndexedX true) 4 (some (littleEndian ll hh)) true (some [.A, .X]) (some [.A]) (some [.N, .V, .Z, .C]) false)
      (fun _ => "ADC $".toList ++ hex2 hh ++ hex2 ll ++ ",X".toList) ∧
    RowHolds (.sbcIzxE1 ll) [ll]
      (rowRecord .SBC 0xE1 .indexedIndirectX 6 (some (zeroExtended ll)) false (some [.A, .X]) (some [.A]) (some [.N, .V, .Z, .C]) false)
      (fun _ => "SBC ($".toList ++ hex2 ll ++ ",X)".toList) ∧
    RowHolds (.sbcZpE5 ll) [ll]
      (rowRecord .SBC 0xE5 .zeropage 3 (some (zeroExtended ll)) false (some [.A]) (some [.A]) (some [.N, .V, .Z, .C]) false)
      (fun _ => "SBC $".toList ++ hex2 ll) ∧
    RowHolds (.sbcImmE9 ll) [ll]
      (rowRecord .SBC 0xE9 .immediate 2 (some (zeroExtended ll)) false (some [.A]) (some [.A]) (some [.N, .V, .Z, .C]) false)
      (fun _ => "SBC #$".toList ++ hex2 ll) ∧
    RowHolds (.sbcAbsED ll hh) [ll, hh]
      (rowRecord .SBC 0xED .absolute 4 (some (littleEndian ll hh)) false (some [.A]) (some [.A]) (some [.N, .V, .Z, .C]) false)
      (fun _ => "SBC $".toList ++ hex2 hh ++ hex2 ll) ∧
    RowHolds (.sbcIzyF1 ll) [ll]
      (rowRecord .SBC 0xF1 (.indirectIndexedY true) 5 (some (zeroExtended ll)) true (some [.A, .Y]) (some [.A]) (some [.N, .V, .Z, .C]) false)
      (fun _ => "SBC ($".toList ++ hex2 ll ++ "),Y".toList) ∧
    RowHolds (.sbcZpxF5 ll) [ll]
      (rowRecord .SBC 0xF5 .zeropageIndexedX 4 (some (zeroExtended ll)) false (some [.A, .X]) (some [.A]) (some [.N, .V, .Z, .C]) false)
      (fun _ => "SBC $".toList ++ hex2 ll ++ ",X".toList) ∧
    RowHolds (.sbcAbyF9 ll hh) [ll, hh]
      (rowRecord .SBC 0xF9 (.absoluteIndexedY true) 4 (some (littleEndian ll hh)) true (some [.A, .Y]) (some [.A]) (some [.N, .V, .Z, .C]) false)
      (fun _ => "SBC $".toList ++ hex2 hh ++ hex2 ll ++ ",Y".toList) ∧
    RowHolds (.sbcAbxFD ll hh) [ll, hh]
      (rowRecord .SBC 0xFD (.absoluteIndexedX true) 4 (some (littleEndian ll hh)) true (some [.A, .X]) (some [.A]) (some [.N, .V, .Z, .C]) false)
      (fun _ => "SBC $".toList ++ hex2 hh ++ hex2 ll ++ ",X".toList) ∧
    RowHolds (.andIzx21 ll) [ll]
      (rowRecord .AND 0x21 .indexedIndirectX 6 (some (zeroExtended ll)) false (some [.A, .X]) (some [.A]) (some [.N, .Z]) false)
      (fun _ => "AND ($".toList ++ hex2 ll ++ ",X)".toList) ∧
    RowHolds (.andZp25 ll) [ll]
      (rowRecord .AND 0x25 .zeropage 3 (some (zeroExtended ll)) false (some [.A]) (some [.A]) (some [.N, .Z]) false)
      (fun _ => "AND $".toList ++ hex2 ll) ∧
    RowHolds (.andImm29 ll) [ll]
      (rowRecord .AND 0x29 .immediate 2 (some (zeroExtended ll)) false (some [.A]) (some [.A]) (some [.N, .Z]) false)
      (fun _ => "AND #$".toList ++ hex2 ll) ∧
    RowHolds (.andAbs2D ll hh) [ll, hh]
      (rowRecord .AND 0x2D .absolute 4 (some (littleEndian ll hh)) false (some [.A]) (some [.A]) (some [.N, .Z]) false)
      (fun _ => "AND $".toList ++ hex2 hh ++ hex2 ll) ∧
    RowHolds (.andIzy31 ll) [ll]
      (rowRecord .AND 0x31 (.indirectIndexedY true) 5 (some (zeroExtended ll)) true (some [.A, .Y]) (some [.A]) (some [.N, .Z]) false)
      (fun _ => "AND ($".toList ++ hex2 ll ++ "),Y".toList) ∧
    RowHolds (.andZpx35 ll) [ll]
      (rowRecord .AND 0x35 .zeropageIndexedX 4 (some (zeroExtended ll)) false (some [.A, .X]) (some [.A]) (some [.N, .Z]) false)
      (fun _ => "AND $".toList ++ hex2 ll ++ ",X".toList) ∧
    RowHolds (.andAby39 ll hh) [ll, hh]
      (rowRecord .AND 0x39 (.absoluteIndexedY true) 4 (some (littleEndian ll hh)) true (some [.A, .Y]) (some [.A]) (some [.N, .Z]) false)
      (fun _ => "AND $".toList ++ hex2 hh ++ hex2 ll ++ ",Y".toList) ∧
    RowHolds (.andAbx3D ll hh) [ll, hh]
      (rowRecord .AND 0x3D (.absoluteIndexedX true) 4 (some (littleEndian ll hh)) true (some [.A, .X]) (some [.A]) (some [.N, .Z]) false)
      (fun _ => "AND $".toList ++ hex2 hh ++ hex2 ll ++ ",X".toList) ∧
    RowHolds (.oraIzx01 ll) [ll]
      (rowRecord .ORA 0x01 .indexedIndirectX 6 (some (zeroExtended ll)) false (some [.A, .X]) (some [.A]) (some [.N, .Z]) false)
      (fun _ => "ORA ($".toList ++ hex2 ll ++ ",X)".toList) ∧
    RowHolds (.oraZp05 ll) [ll]
      (rowRecord .ORA 0x05 .zeropage 3 (some (zeroExtended ll)) false (some [.A]) (some [.A]) (some [.N, .Z]) false)
      (fun _ => "ORA $".toList ++ hex2 ll) ∧
    RowHolds (.oraImm09 ll) [ll]
      (rowRecord .ORA 0x09 .immediate 2 (some (zeroExtended ll)) false (some [.A]) (some [.A]) (some [.N, .Z]) false)
      (fun _ => "ORA #$".toList ++ hex2 ll) ∧
    RowHolds (.oraAbs0D ll hh) [ll, hh]
      (rowRecord .ORA 0x0D .absolute 4 (some (littleEndian ll hh)) false (some [.A]) (some [.A]) (some [.N, .Z]) false)
      (fun _ => "ORA $".toList ++ hex2 hh ++ hex2 ll) ∧
    RowHolds (.oraIzy11 ll) [ll]
      (rowRecord .ORA 0x11 (.indirectIndexedY true) 5 (some (zeroExtended ll)) true (some [.A, .Y]) (some [.A]) (some [.N, .Z]) false)
      (fun _ => "ORA ($".toList ++ hex2 ll ++ "),Y".toList) ∧
    RowHolds (.oraZpx15 ll) [ll]
      (rowRecord .ORA 0x15 .zeropageIndexedX 4 (some (zeroExtended ll)) false (some [.A, .X]) (some [.A]) (some [.N, .Z]) false)
      (fun _ => "ORA $".toList ++ hex2 ll ++ ",X".toList) ∧
    RowHolds (.oraAby19 ll hh) [ll, hh]
      (rowRecord .ORA 0x19 (.absoluteIndexedY true) 4 (some (littleEndian ll hh)) true (some [.A, .Y]) (some [.A]) (some [.N, .Z]) false)
      (fun _ => "ORA $".toList ++ hex2 hh ++ hex2 ll ++ ",Y".toList) ∧
    RowHolds (.oraAbx1D ll hh) [ll, hh]
      (rowRecord .ORA 0x1D (.absoluteIndexedX true) 4 (some (littleEndian ll hh)) true (some [.A, .X]) (some [.A]) (some [.N, .Z]) false)
      (fun _ => "ORA $".toList ++ hex2 hh ++ hex2 ll ++ ",X".toList) ∧
    RowHolds (.eorIzx41 ll) [ll]
      (rowRecord .EOR 0x41 .indexedIndirectX 6 (some (zeroExtended ll)) false (some [.A, .X]) (some [.A]) (some [.N, .Z]) false)
      (fun _ => "EOR ($".toList ++ hex2 ll ++ ",X)".toList) ∧
    RowHolds (.eorZp45 ll) [ll]
      (rowRecord .EOR 0x45 .zeropage 3 (some (zeroExtended ll)) false (some [.A]) (some [.A]) (some [.N, .Z]) false)
      (fun _ => "EOR $".toList ++ hex2 ll) ∧
    RowHolds (.eorImm49 ll) [ll]
      (rowRecord .EOR 0x49 .immediate 2 (some (zeroExtended ll)) false (some [.A]) (some [.A]) (some [.N, .Z]) false)
      (fun _ => "EOR #$".toList ++ hex2 ll) ∧
    RowHolds (.eorAbs4D ll hh) [ll, hh]
      (rowRecord .EOR 0x4D .absolute 4 (some (littleEndian ll hh)) false (some [.A]) (some [.A]) (some [.N, .Z]) false)
      (fun _ => "EOR $".toList ++ hex2 hh ++ hex2 ll) ∧
    RowHolds (.eorIzy51 ll) [ll]
      (rowRecord .EOR 0x51 (.indirectIndexedY true) 5 (some (zeroExtended ll)) true (some [.A, .Y]) (some [.A]) (some [.N, .Z]) false)
      (fun _ => "EOR ($".toList ++ hex2 ll ++ "),Y".toList) ∧
    RowHolds (.eorZpx55 ll) [ll]
      (rowRecord .EOR 0x55 .zeropageIndexedX 4 (some (zeroExtended ll)) false (some [.A, .X]) (some [.A]) (some [.N, .Z]) false)
      (fun _ => "EOR $".toList ++ hex2 ll ++ ",X".toList) ∧
    RowHolds (.eorAby59 ll hh) [ll, hh]
      (rowRecord .EOR 0x59 (.absoluteIndexedY true) 4 (some (littleEndian ll hh)) true (some [.A, .Y]) (some [.A]) (some [.N, .Z]) false)
      (fun _ => "EOR $".toList ++ hex2 hh ++ hex2 ll ++ ",Y".toList) ∧
    RowHolds (.eorAbx5D ll hh) [ll, hh]
      (rowRecord .EOR 0x5D (.absoluteIndexedX true) 4 (some (littleEndian ll hh)) true (some [.A, .X]) (some [.A]) (some [.N, .Z]) false)
      (fun _ => "EOR $".toList ++ hex2 hh ++ hex2 ll ++ ",X".toList) ∧
    RowHolds (.bitZp24 ll) [ll]
      (rowRecord .BIT 0x24 .zeropage 3 (some (zeroExtended ll)) false (some [.A]) none (some [.N, .V, .Z]) false)
      (fun _ => "BIT $".toList ++ hex2 ll) ∧
    RowHolds (.bitAbs2C ll hh) [ll, hh]
      (rowRecord .BIT 0x2C .absolute 4 (some (littleEndian ll hh)) false (some [.A]) none (some [.N, .V, .Z]) false)
      (fun _ => "BIT $".toList ++ hex2 hh ++ hex2 ll)

/-- The rows of CMP, CPX, CPY, INC, INX, INY, DEC, DEX, DEY (R147, R148, R149, R154, R155, R156, R150, R151, R152): record, cursor,
fault, texts and bytes.
The values are the spec's own: [from general knowledge, not in source] and 92 D6 and D8 to D14 (log entry 14). -/
def Obligations.CompareAndIncrementRows : Prop :=
  ∀ ll hh : Byte,
    RowHolds (.cmpIzxC1 ll) [ll]
      (rowRecord .CMP 0xC1 .indexedIndirectX 6 (some (zeroExtended ll)) false (some [.A, .X]) none (some [.N, .Z, .C]) false)
      (fun _ => "CMP ($".toList ++ hex2 ll ++ ",X)".toList) ∧
    RowHolds (.cmpZpC5 ll) [ll]
      (rowRecord .CMP 0xC5 .zeropage 3 (some (zeroExtended ll)) false (some [.A]) none (some [.N, .Z, .C]) false)
      (fun _ => "CMP $".toList ++ hex2 ll) ∧
    RowHolds (.cmpImmC9 ll) [ll]
      (rowRecord .CMP 0xC9 .immediate 2 (some (zeroExtended ll)) false (some [.A]) none (some [.N, .Z, .C]) false)
      (fun _ => "CMP #$".toList ++ hex2 ll) ∧
    RowHolds (.cmpAbsCD ll hh) [ll, hh]
      (rowRecord .CMP 0xCD .absolute 4 (some (littleEndian ll hh)) false (some [.A]) none (some [.N, .Z, .C]) false)
      (fun _ => "CMP $".toList ++ hex2 hh ++ hex2 ll) ∧
    RowHolds (.cmpIzyD1 ll) [ll]
      (rowRecord .CMP 0xD1 (.indirectIndexedY true) 5 (some (zeroExtended ll)) true (some [.A, .Y]) none (some [.N, .Z, .C]) false)
      (fun _ => "CMP ($".toList ++ hex2 ll ++ "),Y".toList) ∧
    RowHolds (.cmpZpxD5 ll) [ll]
      (rowRecord .CMP 0xD5 .zeropageIndexedX 4 (some (zeroExtended ll)) false (some [.A, .X]) none (some [.N, .Z, .C]) false)
      (fun _ => "CMP $".toList ++ hex2 ll ++ ",X".toList) ∧
    RowHolds (.cmpAbyD9 ll hh) [ll, hh]
      (rowRecord .CMP 0xD9 (.absoluteIndexedY true) 4 (some (littleEndian ll hh)) true (some [.A, .Y]) none (some [.N, .Z, .C]) false)
      (fun _ => "CMP $".toList ++ hex2 hh ++ hex2 ll ++ ",Y".toList) ∧
    RowHolds (.cmpAbxDD ll hh) [ll, hh]
      (rowRecord .CMP 0xDD (.absoluteIndexedX true) 4 (some (littleEndian ll hh)) true (some [.A, .X]) none (some [.N, .Z, .C]) false)
      (fun _ => "CMP $".toList ++ hex2 hh ++ hex2 ll ++ ",X".toList) ∧
    RowHolds (.cpxImmE0 ll) [ll]
      (rowRecord .CPX 0xE0 .immediate 2 (some (zeroExtended ll)) false (some [.X]) none (some [.N, .Z, .C]) false)
      (fun _ => "CPX #$".toList ++ hex2 ll) ∧
    RowHolds (.cpxZpE4 ll) [ll]
      (rowRecord .CPX 0xE4 .zeropage 3 (some (zeroExtended ll)) false (some [.X]) none (some [.N, .Z, .C]) false)
      (fun _ => "CPX $".toList ++ hex2 ll) ∧
    RowHolds (.cpxAbsEC ll hh) [ll, hh]
      (rowRecord .CPX 0xEC .absolute 4 (some (littleEndian ll hh)) false (some [.X]) none (some [.N, .Z, .C]) false)
      (fun _ => "CPX $".toList ++ hex2 hh ++ hex2 ll) ∧
    RowHolds (.cpyImmC0 ll) [ll]
      (rowRecord .CPY 0xC0 .immediate 2 (some (zeroExtended ll)) false (some [.Y]) none (some [.N, .Z, .C]) false)
      (fun _ => "CPY #$".toList ++ hex2 ll) ∧
    RowHolds (.cpyZpC4 ll) [ll]
      (rowRecord .CPY 0xC4 .zeropage 3 (some (zeroExtended ll)) false (some [.Y]) none (some [.N, .Z, .C]) false)
      (fun _ => "CPY $".toList ++ hex2 ll) ∧
    RowHolds (.cpyAbsCC ll hh) [ll, hh]
      (rowRecord .CPY 0xCC .absolute 4 (some (littleEndian ll hh)) false (some [.Y]) none (some [.N, .Z, .C]) false)
      (fun _ => "CPY $".toList ++ hex2 hh ++ hex2 ll) ∧
    RowHolds (.incZpE6 ll) [ll]
      (rowRecord .INC 0xE6 .zeropage 5 (some (zeroExtended ll)) false none none (some [.N, .Z]) false)
      (fun _ => "INC $".toList ++ hex2 ll) ∧
    RowHolds (.incAbsEE ll hh) [ll, hh]
      (rowRecord .INC 0xEE .absolute 6 (some (littleEndian ll hh)) false none none (some [.N, .Z]) false)
      (fun _ => "INC $".toList ++ hex2 hh ++ hex2 ll) ∧
    RowHolds (.incZpxF6 ll) [ll]
      (rowRecord .INC 0xF6 .zeropageIndexedX 6 (some (zeroExtended ll)) false (some [.X]) none (some [.N, .Z]) false)
      (fun _ => "INC $".toList ++ hex2 ll ++ ",X".toList) ∧
    RowHolds (.incAbxFE ll hh) [ll, hh]
      (rowRecord .INC 0xFE (.absoluteIndexedX false) 7 (some (littleEndian ll hh)) false (some [.X]) none (some [.N, .Z]) false)
      (fun _ => "INC $".toList ++ hex2 hh ++ hex2 ll ++ ",X".toList) ∧
    RowHolds .inxImpE8 []
      (rowRecord .INX 0xE8 .implied 2 none false (some [.X]) (some [.X]) (some [.N, .Z]) false)
      (fun _ => "INX".toList) ∧
    RowHolds .inyImpC8 []
      (rowRecord .INY 0xC8 .implied 2 none false (some [.Y]) (some [.Y]) (some [.N, .Z]) false)
      (fun _ => "INY".toList) ∧
    RowHolds (.decZpC6 ll) [ll]
      (rowRecord .DEC 0xC6 .zeropage 5 (some (zeroExtended ll)) false none none (some [.N, .Z]) false)
      (fun _ => "DEC $".toList ++ hex2 ll) ∧
    RowHolds (.decAbsCE ll hh) [ll, hh]
      (rowRecord .DEC 0xCE .absolute 6 (some (littleEndian ll hh)) false none none (some [.N, .Z]) false)
      (fun _ => "DEC $".toList ++ hex2 hh ++ hex2 ll) ∧
    RowHolds (.decZpxD6 ll) [ll]
      (rowRecord .DEC 0xD6 .zeropageIndexedX 6 (some (zeroExtended ll)) false (some [.X]) none (some [.N, .Z]) false)
      (fun _ => "DEC $".toList ++ hex2 ll ++ ",X".toList) ∧
    RowHolds (.decAbxDE ll hh) [ll, hh]
      (rowRecord .DEC 0xDE (.absoluteIndexedX false) 7 (some (littleEndian ll hh)) false (some [.X]) none (some [.N, .Z]) false)
      (fun _ => "DEC $".toList ++ hex2 hh ++ hex2 ll ++ ",X".toList) ∧
    RowHolds .dexImpCA []
      (rowRecord .DEX 0xCA .implied 2 none false (some [.X]) (some [.X]) (some [.N, .Z]) false)
      (fun _ => "DEX".toList) ∧
    RowHolds .deyImp88 []
      (rowRecord .DEY 0x88 .implied 2 none false (some [.Y]) (some [.Y]) (some [.N, .Z]) false)
      (fun _ => "DEY".toList)

/-- The rows of ASL, LSR, ROL, ROR (R132, R162, R169, R170): record, cursor,
fault, texts and bytes.
The values are the spec's own: [from general knowledge, not in source] and 92 D6 and D8 to D14 (log entry 14). -/
def Obligations.ShiftAndRotateRows : Prop :=
  ∀ ll hh : Byte,
    RowHolds (.aslZp06 ll) [ll]
      (rowRecord .ASL 0x06 .zeropage 5 (some (zeroExtended ll)) false none none (some [.N, .Z, .C]) false)
      (fun _ => "ASL $".toList ++ hex2 ll) ∧
    RowHolds .aslAcc0A []
      (rowRecord .ASL 0x0A .accumulator 2 none false (some [.A]) (some [.A]) (some [.N, .Z, .C]) false)
      (fun _ => "ASL A".toList) ∧
    RowHolds (.aslAbs0E ll hh) [ll, hh]
      (rowRecord .ASL 0x0E .absolute 6 (some (littleEndian ll hh)) false none none (some [.N, .Z, .C]) false)
      (fun _ => "ASL $".toList ++ hex2 hh ++ hex2 ll) ∧
    RowHolds (.aslZpx16 ll) [ll]
      (rowRecord .ASL 0x16 .zeropageIndexedX 6 (some (zeroExtended ll)) false (some [.X]) none (some [.N, .Z, .C]) false)
      (fun _ => "ASL $".toList ++ hex2 ll ++ ",X".toList) ∧
    RowHolds (.aslAbx1E ll hh) [ll, hh]
      (rowRecord .ASL 0x1E (.absoluteIndexedX false) 7 (some (littleEndian ll hh)) false (some [.X]) none (some [.N, .Z, .C]) false)
      (fun _ => "ASL $".toList ++ hex2 hh ++ hex2 ll ++ ",X".toList) ∧
    RowHolds (.lsrZp46 ll) [ll]
      (rowRecord .LSR 0x46 .zeropage 5 (some (zeroExtended ll)) false none none (some [.N, .Z, .C]) false)
      (fun _ => "LSR $".toList ++ hex2 ll) ∧
    RowHolds .lsrAcc4A []
      (rowRecord .LSR 0x4A .accumulator 2 none false (some [.A]) (some [.A]) (some [.N, .Z, .C]) false)
      (fun _ => "LSR A".toList) ∧
    RowHolds (.lsrAbs4E ll hh) [ll, hh]
      (rowRecord .LSR 0x4E .absolute 6 (some (littleEndian ll hh)) false none none (some [.N, .Z, .C]) false)
      (fun _ => "LSR $".toList ++ hex2 hh ++ hex2 ll) ∧
    RowHolds (.lsrZpx56 ll) [ll]
      (rowRecord .LSR 0x56 .zeropageIndexedX 6 (some (zeroExtended ll)) false (some [.X]) none (some [.N, .Z, .C]) false)
      (fun _ => "LSR $".toList ++ hex2 ll ++ ",X".toList) ∧
    RowHolds (.lsrAbx5E ll hh) [ll, hh]
      (rowRecord .LSR 0x5E (.absoluteIndexedX false) 7 (some (littleEndian ll hh)) false (some [.X]) none (some [.N, .Z, .C]) false)
      (fun _ => "LSR $".toList ++ hex2 hh ++ hex2 ll ++ ",X".toList) ∧
    RowHolds (.rolZp26 ll) [ll]
      (rowRecord .ROL 0x26 .zeropage 5 (some (zeroExtended ll)) false none none (some [.N, .Z, .C]) false)
      (fun _ => "ROL $".toList ++ hex2 ll) ∧
    RowHolds .rolAcc2A []
      (rowRecord .ROL 0x2A .accumulator 2 none false (some [.A]) (some [.A]) (some [.N, .Z, .C]) false)
      (fun _ => "ROL A".toList) ∧
    RowHolds (.rolAbs2E ll hh) [ll, hh]
      (rowRecord .ROL 0x2E .absolute 6 (some (littleEndian ll hh)) false none none (some [.N, .Z, .C]) false)
      (fun _ => "ROL $".toList ++ hex2 hh ++ hex2 ll) ∧
    RowHolds (.rolZpx36 ll) [ll]
      (rowRecord .ROL 0x36 .zeropageIndexedX 6 (some (zeroExtended ll)) false (some [.X]) none (some [.N, .Z, .C]) false)
      (fun _ => "ROL $".toList ++ hex2 ll ++ ",X".toList) ∧
    RowHolds (.rolAbx3E ll hh) [ll, hh]
      (rowRecord .ROL 0x3E (.absoluteIndexedX false) 7 (some (littleEndian ll hh)) false (some [.X]) none (some [.N, .Z, .C]) false)
      (fun _ => "ROL $".toList ++ hex2 hh ++ hex2 ll ++ ",X".toList) ∧
    RowHolds (.rorZp66 ll) [ll]
      (rowRecord .ROR 0x66 .zeropage 5 (some (zeroExtended ll)) false none none (some [.N, .Z, .C]) false)
      (fun _ => "ROR $".toList ++ hex2 ll) ∧
    RowHolds .rorAcc6A []
      (rowRecord .ROR 0x6A .accumulator 2 none false (some [.A]) (some [.A]) (some [.N, .Z, .C]) false)
      (fun _ => "ROR A".toList) ∧
    RowHolds (.rorAbs6E ll hh) [ll, hh]
      (rowRecord .ROR 0x6E .absolute 6 (some (littleEndian ll hh)) false none none (some [.N, .Z, .C]) false)
      (fun _ => "ROR $".toList ++ hex2 hh ++ hex2 ll) ∧
    RowHolds (.rorZpx76 ll) [ll]
      (rowRecord .ROR 0x76 .zeropageIndexedX 6 (some (zeroExtended ll)) false (some [.X]) none (some [.N, .Z, .C]) false)
      (fun _ => "ROR $".toList ++ hex2 ll ++ ",X".toList) ∧
    RowHolds (.rorAbx7E ll hh) [ll, hh]
      (rowRecord .ROR 0x7E (.absoluteIndexedX false) 7 (some (littleEndian ll hh)) false (some [.X]) none (some [.N, .Z, .C]) false)
      (fun _ => "ROR $".toList ++ hex2 hh ++ hex2 ll ++ ",X".toList)

/-- The rows of BCC, BCS, BEQ, BMI, BNE, BPL, BVC, BVS (R133, R134, R135, R137, R138, R139, R141, R142): record, cursor,
fault, texts and bytes.
The values are the spec's own: [from general knowledge, not in source] and 92 D6 and D8 to D14 (log entry 14). -/
def Obligations.BranchRows : Prop :=
  ∀ ll : Byte,
    RowHolds (.bccRel90 ll) [ll]
      (rowRecord .BCC 0x90 .relative 2 (some (zeroExtended ll)) true none none none false)
      (fun a => "BCC $".toList ++ hex4 (a + 2 + ll.signExtend 16)) ∧
    RowHolds (.bcsRelB0 ll) [ll]
      (rowRecord .BCS 0xB0 .relative 2 (some (zeroExtended ll)) true none none none false)
      (fun a => "BCS $".toList ++ hex4 (a + 2 + ll.signExtend 16)) ∧
    RowHolds (.beqRelF0 ll) [ll]
      (rowRecord .BEQ 0xF0 .relative 2 (some (zeroExtended ll)) true none none none false)
      (fun a => "BEQ $".toList ++ hex4 (a + 2 + ll.signExtend 16)) ∧
    RowHolds (.bmiRel30 ll) [ll]
      (rowRecord .BMI 0x30 .relative 2 (some (zeroExtended ll)) true none none none false)
      (fun a => "BMI $".toList ++ hex4 (a + 2 + ll.signExtend 16)) ∧
    RowHolds (.bneRelD0 ll) [ll]
      (rowRecord .BNE 0xD0 .relative 2 (some (zeroExtended ll)) true none none none false)
      (fun a => "BNE $".toList ++ hex4 (a + 2 + ll.signExtend 16)) ∧
    RowHolds (.bplRel10 ll) [ll]
      (rowRecord .BPL 0x10 .relative 2 (some (zeroExtended ll)) true none none none false)
      (fun a => "BPL $".toList ++ hex4 (a + 2 + ll.signExtend 16)) ∧
    RowHolds (.bvcRel50 ll) [ll]
      (rowRecord .BVC 0x50 .relative 2 (some (zeroExtended ll)) true none none none false)
      (fun a => "BVC $".toList ++ hex4 (a + 2 + ll.signExtend 16)) ∧
    RowHolds (.bvsRel70 ll) [ll]
      (rowRecord .BVS 0x70 .relative 2 (some (zeroExtended ll)) true none none none false)
      (fun a => "BVS $".toList ++ hex4 (a + 2 + ll.signExtend 16))

/-- The rows of JMP, JSR, RTS, RTI, BRK, NOP (R157, R158, R172, R171, R140, R163): record, cursor,
fault, texts and bytes.
The values are the spec's own: [from general knowledge, not in source] and 92 D6 and D8 to D14 (log entry 14). -/
def Obligations.JumpReturnAndNopRows : Prop :=
  ∀ ll hh : Byte,
    RowHolds (.jmpAbs4C ll hh) [ll, hh]
      (rowRecord .JMP 0x4C .absolute 3 (some (littleEndian ll hh)) false none none none false)
      (fun _ => "JMP $".toList ++ hex2 hh ++ hex2 ll) ∧
    RowHolds (.jmpInd6C ll hh) [ll, hh]
      (rowRecord .JMP 0x6C .indirect 5 (some (littleEndian ll hh)) false none none none false)
      (fun _ => "JMP ($".toList ++ hex2 hh ++ hex2 ll ++ ")".toList) ∧
    RowHolds (.jsrAbs20 ll hh) [ll, hh]
      (rowRecord .JSR 0x20 .absolute 6 (some (littleEndian ll hh)) false none none none false)
      (fun _ => "JSR $".toList ++ hex2 hh ++ hex2 ll) ∧
    RowHolds .rtsImp60 []
      (rowRecord .RTS 0x60 .implied 6 none false none none none false)
      (fun _ => "RTS".toList) ∧
    RowHolds .rtiImp40 []
      (rowRecord .RTI 0x40 .implied 6 none false none none (some [.N, .V, .B, .D, .I, .Z, .C]) false)
      (fun _ => "RTI".toList) ∧
    RowHolds .brkImp00 []
      (rowRecord .BRK 0x00 .implied 7 none false none none (some [.B]) false)
      (fun _ => "BRK".toList) ∧
    RowHolds .nopImpEA []
      (rowRecord .NOP 0xEA .implied 2 none false none none none false)
      (fun _ => "NOP".toList)

/-- The rows of PHA, PHP, PLA, PLP, TAX, TAY, TSX, TXA, TXS, TYA (R165, R166, R167, R168, R180, R181, R182, R183, R184, R185): record, cursor,
fault, texts and bytes.
The values are the spec's own: [from general knowledge, not in source] and 92 D6 and D8 to D14 (log entry 14). -/
def Obligations.StackAndTransferRows : Prop :=
 
    RowHolds .phaImp48 []
      (rowRecord .PHA 0x48 .implied 3 none false (some [.A]) none none false)
      (fun _ => "PHA".toList) ∧
    RowHolds .phpImp08 []
      (rowRecord .PHP 0x08 .implied 3 none false none none none false)
      (fun _ => "PHP".toList) ∧
    RowHolds .plaImp68 []
      (rowRecord .PLA 0x68 .implied 4 none false none (some [.A]) (some [.N, .Z]) false)
      (fun _ => "PLA".toList) ∧
    RowHolds .plpImp28 []
      (rowRecord .PLP 0x28 .implied 4 none false none none (some [.N, .V, .B, .D, .I, .Z, .C]) false)
      (fun _ => "PLP".toList) ∧
    RowHolds .taxImpAA []
      (rowRecord .TAX 0xAA .implied 2 none false (some [.A]) (some [.X]) (some [.N, .Z]) false)
      (fun _ => "TAX".toList) ∧
    RowHolds .tayImpA8 []
      (rowRecord .TAY 0xA8 .implied 2 none false (some [.A]) (some [.Y]) (some [.N, .Z]) false)
      (fun _ => "TAY".toList) ∧
    RowHolds .tsxImpBA []
      (rowRecord .TSX 0xBA .implied 2 none false none (some [.X]) (some [.N, .Z]) false)
      (fun _ => "TSX".toList) ∧
    RowHolds .txaImp8A []
      (rowRecord .TXA 0x8A .implied 2 none false (some [.X]) (some [.A]) (some [.N, .Z]) false)
      (fun _ => "TXA".toList) ∧
    RowHolds .txsImp9A []
      (rowRecord .TXS 0x9A .implied 2 none false (some [.X]) none none false)
      (fun _ => "TXS".toList) ∧
    RowHolds .tyaImp98 []
      (rowRecord .TYA 0x98 .implied 2 none false (some [.Y]) (some [.A]) (some [.N, .Z]) false)
      (fun _ => "TYA".toList)

/-- The rows of CLC, CLD, CLI, CLV, SEC, SED, SEI (R143, R144, R145, R146, R174, R175, R176): record, cursor,
fault, texts and bytes.
The values are the spec's own: [from general knowledge, not in source] and 92 D6 and D8 to D14 (log entry 14). -/
def Obligations.FlagInstructionRows : Prop :=
 
    RowHolds .clcImp18 []
      (rowRecord .CLC 0x18 .implied 2 none false none none (some [.C]) false)
      (fun _ => "CLC".toList) ∧
    RowHolds .cldImpD8 []
      (rowRecord .CLD 0xD8 .implied 2 none false none none (some [.D]) false)
      (fun _ => "CLD".toList) ∧
    RowHolds .cliImp58 []
      (rowRecord .CLI 0x58 .implied 2 none false none none (some [.I]) false)
      (fun _ => "CLI".toList) ∧
    RowHolds .clvImpB8 []
      (rowRecord .CLV 0xB8 .implied 2 none false none none (some [.V]) false)
      (fun _ => "CLV".toList) ∧
    RowHolds .secImp38 []
      (rowRecord .SEC 0x38 .implied 2 none false none none (some [.C]) false)
      (fun _ => "SEC".toList) ∧
    RowHolds .sedImpF8 []
      (rowRecord .SED 0xF8 .implied 2 none false none none (some [.D]) false)
      (fun _ => "SED".toList) ∧
    RowHolds .seiImp78 []
      (rowRecord .SEI 0x78 .implied 2 none false none none (some [.I]) false)
      (fun _ => "SEI".toList)

/-- The rows of SLO, RLA, SRE, RRA, DCP, ISC (R201, R203, R204, R205, R216, R218): record, cursor,
fault, texts and bytes.
The values are the spec's own: [from general knowledge, not in source] and 92 D6 and D8 to D14 (log entry 14). -/
def Obligations.UndocumentedReadModifyWriteRows : Prop :=
  ∀ ll hh : Byte,
    RowHolds (.sloIzx03 ll) [ll]
      (rowRecord .SLO 0x03 .indexedIndirectX 8 (some (zeroExtended ll)) false (some [.A, .X]) (some [.A]) (some [.N, .Z, .C]) true)
      (fun _ => "SLO ($".toList ++ hex2 ll ++ ",X)".toList) ∧
    RowHolds (.sloZp07 ll) [ll]
      (rowRecord .SLO 0x07 .zeropage 5 (some (zeroExtended ll)) false (some [.A]) (some [.A]) (some [.N, .Z, .C]) true)
      (fun _ => "SLO $".toList ++ hex2 ll) ∧
    RowHolds (.sloAbs0F ll hh) [ll, hh]
      (rowRecord .SLO 0x0F .absolute 6 (some (littleEndian ll hh)) false (some [.A]) (some [.A]) (some [.N, .Z, .C]) true)
      (fun _ => "SLO $".toList ++ hex2 hh ++ hex2 ll) ∧
    RowHolds (.sloIzy13 ll) [ll]
      (rowRecord .SLO 0x13 (.indirectIndexedY false) 8 (some (zeroExtended ll)) false (some [.A, .Y]) (some [.A]) (some [.N, .Z, .C]) true)
      (fun _ => "SLO ($".toList ++ hex2 ll ++ "),Y".toList) ∧
    RowHolds (.sloZpx17 ll) [ll]
      (rowRecord .SLO 0x17 .zeropageIndexedX 6 (some (zeroExtended ll)) false (some [.A, .X]) (some [.A]) (some [.N, .Z, .C]) true)
      (fun _ => "SLO $".toList ++ hex2 ll ++ ",X".toList) ∧
    RowHolds (.sloAby1B ll hh) [ll, hh]
      (rowRecord .SLO 0x1B (.absoluteIndexedY false) 7 (some (littleEndian ll hh)) false (some [.A, .Y]) (some [.A]) (some [.N, .Z, .C]) true)
      (fun _ => "SLO $".toList ++ hex2 hh ++ hex2 ll ++ ",Y".toList) ∧
    RowHolds (.sloAbx1F ll hh) [ll, hh]
      (rowRecord .SLO 0x1F (.absoluteIndexedX false) 7 (some (littleEndian ll hh)) false (some [.A, .X]) (some [.A]) (some [.N, .Z, .C]) true)
      (fun _ => "SLO $".toList ++ hex2 hh ++ hex2 ll ++ ",X".toList) ∧
    RowHolds (.rlaIzx23 ll) [ll]
      (rowRecord .RLA 0x23 .indexedIndirectX 8 (some (zeroExtended ll)) false (some [.A, .X]) (some [.A]) (some [.N, .Z, .C]) true)
      (fun _ => "RLA ($".toList ++ hex2 ll ++ ",X)".toList) ∧
    RowHolds (.rlaZp27 ll) [ll]
      (rowRecord .RLA 0x27 .zeropage 5 (some (zeroExtended ll)) false (some [.A]) (some [.A]) (some [.N, .Z, .C]) true)
      (fun _ => "RLA $".toList ++ hex2 ll) ∧
    RowHolds (.rlaAbs2F ll hh) [ll, hh]
      (rowRecord .RLA 0x2F .absolute 6 (some (littleEndian ll hh)) false (some [.A]) (some [.A]) (some [.N, .Z, .C]) true)
      (fun _ => "RLA $".toList ++ hex2 hh ++ hex2 ll) ∧
    RowHolds (.rlaIzy33 ll) [ll]
      (rowRecord .RLA 0x33 (.indirectIndexedY false) 8 (some (zeroExtended ll)) false (some [.A, .Y]) (some [.A]) (some [.N, .Z, .C]) true)
      (fun _ => "RLA ($".toList ++ hex2 ll ++ "),Y".toList) ∧
    RowHolds (.rlaZpx37 ll) [ll]
      (rowRecord .RLA 0x37 .zeropageIndexedX 6 (some (zeroExtended ll)) false (some [.A, .X]) (some [.A]) (some [.N, .Z, .C]) true)
      (fun _ => "RLA $".toList ++ hex2 ll ++ ",X".toList) ∧
    RowHolds (.rlaAby3B ll hh) [ll, hh]
      (rowRecord .RLA 0x3B (.absoluteIndexedY false) 7 (some (littleEndian ll hh)) false (some [.A, .Y]) (some [.A]) (some [.N, .Z, .C]) true)
      (fun _ => "RLA $".toList ++ hex2 hh ++ hex2 ll ++ ",Y".toList) ∧
    RowHolds (.rlaAbx3F ll hh) [ll, hh]
      (rowRecord .RLA 0x3F (.absoluteIndexedX false) 7 (some (littleEndian ll hh)) false (some [.A, .X]) (some [.A]) (some [.N, .Z, .C]) true)
      (fun _ => "RLA $".toList ++ hex2 hh ++ hex2 ll ++ ",X".toList) ∧
    RowHolds (.sreIzx43 ll) [ll]
      (rowRecord .SRE 0x43 .indexedIndirectX 8 (some (zeroExtended ll)) false (some [.A, .X]) (some [.A]) (some [.N, .Z, .C]) true)
      (fun _ => "SRE ($".toList ++ hex2 ll ++ ",X)".toList) ∧
    RowHolds (.sreZp47 ll) [ll]
      (rowRecord .SRE 0x47 .zeropage 5 (some (zeroExtended ll)) false (some [.A]) (some [.A]) (some [.N, .Z, .C]) true)
      (fun _ => "SRE $".toList ++ hex2 ll) ∧
    RowHolds (.sreAbs4F ll hh) [ll, hh]
      (rowRecord .SRE 0x4F .absolute 6 (some (littleEndian ll hh)) false (some [.A]) (some [.A]) (some [.N, .Z, .C]) true)
      (fun _ => "SRE $".toList ++ hex2 hh ++ hex2 ll) ∧
    RowHolds (.sreIzy53 ll) [ll]
      (rowRecord .SRE 0x53 (.indirectIndexedY false) 8 (some (zeroExtended ll)) false (some [.A, .Y]) (some [.A]) (some [.N, .Z, .C]) true)
      (fun _ => "SRE ($".toList ++ hex2 ll ++ "),Y".toList) ∧
    RowHolds (.sreZpx57 ll) [ll]
      (rowRecord .SRE 0x57 .zeropageIndexedX 6 (some (zeroExtended ll)) false (some [.A, .X]) (some [.A]) (some [.N, .Z, .C]) true)
      (fun _ => "SRE $".toList ++ hex2 ll ++ ",X".toList) ∧
    RowHolds (.sreAby5B ll hh) [ll, hh]
      (rowRecord .SRE 0x5B (.absoluteIndexedY false) 7 (some (littleEndian ll hh)) false (some [.A, .Y]) (some [.A]) (some [.N, .Z, .C]) true)
      (fun _ => "SRE $".toList ++ hex2 hh ++ hex2 ll ++ ",Y".toList) ∧
    RowHolds (.sreAbx5F ll hh) [ll, hh]
      (rowRecord .SRE 0x5F (.absoluteIndexedX false) 7 (some (littleEndian ll hh)) false (some [.A, .X]) (some [.A]) (some [.N, .Z, .C]) true)
      (fun _ => "SRE $".toList ++ hex2 hh ++ hex2 ll ++ ",X".toList) ∧
    RowHolds (.rraIzx63 ll) [ll]
      (rowRecord .RRA 0x63 .indexedIndirectX 8 (some (zeroExtended ll)) false (some [.A, .X]) (some [.A]) (some [.N, .V, .Z, .C]) true)
      (fun _ => "RRA ($".toList ++ hex2 ll ++ ",X)".toList) ∧
    RowHolds (.rraZp67 ll) [ll]
      (rowRecord .RRA 0x67 .zeropage 5 (some (zeroExtended ll)) false (some [.A]) (some [.A]) (some [.N, .V, .Z, .C]) true)
      (fun _ => "RRA $".toList ++ hex2 ll) ∧
    RowHolds (.rraAbs6F ll hh) [ll, hh]
      (rowRecord .RRA 0x6F .absolute 6 (some (littleEndian ll hh)) false (some [.A]) (some [.A]) (some [.N, .V, .Z, .C]) true)
      (fun _ => "RRA $".toList ++ hex2 hh ++ hex2 ll) ∧
    RowHolds (.rraIzy73 ll) [ll]
      (rowRecord .RRA 0x73 (.indirectIndexedY false) 8 (some (zeroExtended ll)) false (some [.A, .Y]) (some [.A]) (some [.N, .V, .Z, .C]) true)
      (fun _ => "RRA ($".toList ++ hex2 ll ++ "),Y".toList) ∧
    RowHolds (.rraZpx77 ll) [ll]
      (rowRecord .RRA 0x77 .zeropageIndexedX 6 (some (zeroExtended ll)) false (some [.A, .X]) (some [.A]) (some [.N, .V, .Z, .C]) true)
      (fun _ => "RRA $".toList ++ hex2 ll ++ ",X".toList) ∧
    RowHolds (.rraAby7B ll hh) [ll, hh]
      (rowRecord .RRA 0x7B (.absoluteIndexedY false) 7 (some (littleEndian ll hh)) false (some [.A, .Y]) (some [.A]) (some [.N, .V, .Z, .C]) true)
      (fun _ => "RRA $".toList ++ hex2 hh ++ hex2 ll ++ ",Y".toList) ∧
    RowHolds (.rraAbx7F ll hh) [ll, hh]
      (rowRecord .RRA 0x7F (.absoluteIndexedX false) 7 (some (littleEndian ll hh)) false (some [.A, .X]) (some [.A]) (some [.N, .V, .Z, .C]) true)
      (fun _ => "RRA $".toList ++ hex2 hh ++ hex2 ll ++ ",X".toList) ∧
    RowHolds (.dcpIzxC3 ll) [ll]
      (rowRecord .DCP 0xC3 .indexedIndirectX 8 (some (zeroExtended ll)) false (some [.A, .X]) none (some [.N, .Z, .C]) true)
      (fun _ => "DCP ($".toList ++ hex2 ll ++ ",X)".toList) ∧
    RowHolds (.dcpZpC7 ll) [ll]
      (rowRecord .DCP 0xC7 .zeropage 5 (some (zeroExtended ll)) false (some [.A]) none (some [.N, .Z, .C]) true)
      (fun _ => "DCP $".toList ++ hex2 ll) ∧
    RowHolds (.dcpAbsCF ll hh) [ll, hh]
      (rowRecord .DCP 0xCF .absolute 6 (some (littleEndian ll hh)) false (some [.A]) none (some [.N, .Z, .C]) true)
      (fun _ => "DCP $".toList ++ hex2 hh ++ hex2 ll) ∧
    RowHolds (.dcpIzyD3 ll) [ll]
      (rowRecord .DCP 0xD3 (.indirectIndexedY false) 8 (some (zeroExtended ll)) false (some [.A, .Y]) none (some [.N, .Z, .C]) true)
      (fun _ => "DCP ($".toList ++ hex2 ll ++ "),Y".toList) ∧
    RowHolds (.dcpZpxD7 ll) [ll]
      (rowRecord .DCP 0xD7 .zeropageIndexedX 6 (some (zeroExtended ll)) false (some [.A, .X]) none (some [.N, .Z, .C]) true)
      (fun _ => "DCP $".toList ++ hex2 ll ++ ",X".toList) ∧
    RowHolds (.dcpAbyDB ll hh) [ll, hh]
      (rowRecord .DCP 0xDB (.absoluteIndexedY false) 7 (some (littleEndian ll hh)) false (some [.A, .Y]) none (some [.N, .Z, .C]) true)
      (fun _ => "DCP $".toList ++ hex2 hh ++ hex2 ll ++ ",Y".toList) ∧
    RowHolds (.dcpAbxDF ll hh) [ll, hh]
      (rowRecord .DCP 0xDF (.absoluteIndexedX false) 7 (some (littleEndian ll hh)) false (some [.A, .X]) none (some [.N, .Z, .C]) true)
      (fun _ => "DCP $".toList ++ hex2 hh ++ hex2 ll ++ ",X".toList) ∧
    RowHolds (.iscIzxE3 ll) [ll]
      (rowRecord .ISC 0xE3 .indexedIndirectX 8 (some (zeroExtended ll)) false (some [.A, .X]) (some [.A]) (some [.N, .V, .Z, .C]) true)
      (fun _ => "ISC ($".toList ++ hex2 ll ++ ",X)".toList) ∧
    RowHolds (.iscZpE7 ll) [ll]
      (rowRecord .ISC 0xE7 .zeropage 5 (some (zeroExtended ll)) false (some [.A]) (some [.A]) (some [.N, .V, .Z, .C]) true)
      (fun _ => "ISC $".toList ++ hex2 ll) ∧
    RowHolds (.iscAbsEF ll hh) [ll, hh]
      (rowRecord .ISC 0xEF .absolute 6 (some (littleEndian ll hh)) false (some [.A]) (some [.A]) (some [.N, .V, .Z, .C]) true)
      (fun _ => "ISC $".toList ++ hex2 hh ++ hex2 ll) ∧
    RowHolds (.iscIzyF3 ll) [ll]
      (rowRecord .ISC 0xF3 (.indirectIndexedY false) 8 (some (zeroExtended ll)) false (some [.A, .Y]) (some [.A]) (some [.N, .V, .Z, .C]) true)
      (fun _ => "ISC ($".toList ++ hex2 ll ++ "),Y".toList) ∧
    RowHolds (.iscZpxF7 ll) [ll]
      (rowRecord .ISC 0xF7 .zeropageIndexedX 6 (some (zeroExtended ll)) false (some [.A, .X]) (some [.A]) (some [.N, .V, .Z, .C]) true)
      (fun _ => "ISC $".toList ++ hex2 ll ++ ",X".toList) ∧
    RowHolds (.iscAbyFB ll hh) [ll, hh]
      (rowRecord .ISC 0xFB (.absoluteIndexedY false) 7 (some (littleEndian ll hh)) false (some [.A, .Y]) (some [.A]) (some [.N, .V, .Z, .C]) true)
      (fun _ => "ISC $".toList ++ hex2 hh ++ hex2 ll ++ ",Y".toList) ∧
    RowHolds (.iscAbxFF ll hh) [ll, hh]
      (rowRecord .ISC 0xFF (.absoluteIndexedX false) 7 (some (littleEndian ll hh)) false (some [.A, .X]) (some [.A]) (some [.N, .V, .Z, .C]) true)
      (fun _ => "ISC $".toList ++ hex2 hh ++ hex2 ll ++ ",X".toList)

/-- The rows of ANC, ALR, SAX, XAA, AHX, TAS, SHY, SHX, ARR, LAX, LAS, AXS (R202, R206, R207, R208, R209, R210, R211, R212, R213, R214, R215, R217): record, cursor,
fault, texts and bytes.
The values are the spec's own: [from general knowledge, not in source] and 92 D6 and D8 to D14 (log entry 14). -/
def Obligations.UndocumentedOtherRows : Prop :=
  ∀ ll hh : Byte,
    RowHolds (.ancImm0B ll) [ll]
      (rowRecord .ANC 0x0B .immediate 2 (some (zeroExtended ll)) false (some [.A]) (some [.A]) (some [.N, .Z, .C]) true)
      (fun _ => "ANC #$".toList ++ hex2 ll) ∧
    RowHolds (.ancImm2B ll) [ll]
      (rowRecord .ANC 0x2B .immediate 2 (some (zeroExtended ll)) false (some [.A]) (some [.A]) (some [.N, .Z, .C]) true)
      (fun _ => "ANC #$".toList ++ hex2 ll) ∧
    RowHolds (.alrImm4B ll) [ll]
      (rowRecord .ALR 0x4B .immediate 2 (some (zeroExtended ll)) false (some [.A]) (some [.A]) none true)
      (fun _ => "ALR #$".toList ++ hex2 ll) ∧
    RowHolds (.saxIzx83 ll) [ll]
      (rowRecord .SAX 0x83 .indexedIndirectX 6 (some (zeroExtended ll)) false (some [.A, .X]) none none true)
      (fun _ => "SAX ($".toList ++ hex2 ll ++ ",X)".toList) ∧
    RowHolds (.saxZp87 ll) [ll]
      (rowRecord .SAX 0x87 .zeropage 3 (some (zeroExtended ll)) false (some [.A, .X]) none none true)
      (fun _ => "SAX $".toList ++ hex2 ll) ∧
    RowHolds (.saxAbs8F ll hh) [ll, hh]
      (rowRecord .SAX 0x8F .absolute 4 (some (littleEndian ll hh)) false (some [.A, .X]) none none true)
      (fun _ => "SAX $".toList ++ hex2 hh ++ hex2 ll) ∧
    RowHolds (.saxZpy97 ll) [ll]
      (rowRecord .SAX 0x97 .zeropageIndexedY 4 (some (zeroExtended ll)) false (some [.A, .X, .Y]) none none true)
      (fun _ => "SAX $".toList ++ hex2 ll ++ ",Y".toList) ∧
    RowHolds (.xaaImm8B ll) [ll]
      (rowRecord .XAA 0x8B .immediate 2 (some (zeroExtended ll)) false (some [.A, .X]) (some [.A]) none true)
      (fun _ => "XAA #$".toList ++ hex2 ll) ∧
    RowHolds (.ahxIzy93 ll) [ll]
      (rowRecord .AHX 0x93 (.indirectIndexedY false) 6 (some (zeroExtended ll)) false (some [.A, .X, .Y]) none none true)
      (fun _ => "AHX ($".toList ++ hex2 ll ++ "),Y".toList) ∧
    RowHolds (.ahxAby9F ll hh) [ll, hh]
      (rowRecord .AHX 0x9F (.absoluteIndexedY false) 5 (some (littleEndian ll hh)) false (some [.A, .X, .Y]) none none true)
      (fun _ => "AHX $".toList ++ hex2 hh ++ hex2 ll ++ ",Y".toList) ∧
    RowHolds (.tasAby9B ll hh) [ll, hh]
      (rowRecord .TAS 0x9B (.absoluteIndexedY false) 5 (some (littleEndian ll hh)) false (some [.A, .X, .Y]) none none true)
      (fun _ => "TAS $".toList ++ hex2 hh ++ hex2 ll ++ ",Y".toList) ∧
    RowHolds (.shyAbx9C ll hh) [ll, hh]
      (rowRecord .SHY 0x9C (.absoluteIndexedX false) 5 (some (littleEndian ll hh)) false (some [.X, .Y]) none none true)
      (fun _ => "SHY $".toList ++ hex2 hh ++ hex2 ll ++ ",X".toList) ∧
    RowHolds (.shxAby9E ll hh) [ll, hh]
      (rowRecord .SHX 0x9E (.absoluteIndexedY false) 5 (some (littleEndian ll hh)) false (some [.X, .Y]) none none true)
      (fun _ => "SHX $".toList ++ hex2 hh ++ hex2 ll ++ ",Y".toList) ∧
    RowHolds (.arrImm6B ll) [ll]
      (rowRecord .ARR 0x6B .immediate 2 (some (zeroExtended ll)) false (some [.A]) (some [.A]) none true)
      (fun _ => "ARR #$".toList ++ hex2 ll) ∧
    RowHolds (.laxIzxA3 ll) [ll]
      (rowRecord .LAX 0xA3 .indexedIndirectX 6 (some (zeroExtended ll)) false (some [.X]) (some [.A, .X]) (some [.N, .Z]) true)
      (fun _ => "LAX ($".toList ++ hex2 ll ++ ",X)".toList) ∧
    RowHolds (.laxZpA7 ll) [ll]
      (rowRecord .LAX 0xA7 .zeropage 3 (some (zeroExtended ll)) false none (some [.A, .X]) (some [.N, .Z]) true)
      (fun _ => "LAX $".toList ++ hex2 ll) ∧
    RowHolds (.laxImmAB ll) [ll]
      (rowRecord .LAX 0xAB .immediate 2 (some (zeroExtended ll)) false none (some [.A, .X]) (some [.N, .Z]) true)
      (fun _ => "LAX #$".toList ++ hex2 ll) ∧
    RowHolds (.laxAbsAF ll hh) [ll, hh]
      (rowRecord .LAX 0xAF .absolute 4 (some (littleEndian ll hh)) false none (some [.A, .X]) (some [.N, .Z]) true)
      (fun _ => "LAX $".toList ++ hex2 hh ++ hex2 ll) ∧
    RowHolds (.laxIzyB3 ll) [ll]
      (rowRecord .LAX 0xB3 (.indirectIndexedY true) 5 (some (zeroExtended ll)) true (some [.Y]) (some [.A, .X]) (some [.N, .Z]) true)
      (fun _ => "LAX ($".toList ++ hex2 ll ++ "),Y".toList) ∧
    RowHolds (.laxZpyB7 ll) [ll]
      (rowRecord .LAX 0xB7 .zeropageIndexedY 4 (some (zeroExtended ll)) false (some [.Y]) (some [.A, .X]) (some [.N, .Z]) true)
      (fun _ => "LAX $".toList ++ hex2 ll ++ ",Y".toList) ∧
    RowHolds (.laxAbyBF ll hh) [ll, hh]
      (rowRecord .LAX 0xBF (.absoluteIndexedY true) 4 (some (littleEndian ll hh)) true (some [.Y]) (some [.A, .X]) (some [.N, .Z]) true)
      (fun _ => "LAX $".toList ++ hex2 hh ++ hex2 ll ++ ",Y".toList) ∧
    RowHolds (.lasAbyBB ll hh) [ll, hh]
      (rowRecord .LAS 0xBB (.absoluteIndexedY true) 4 (some (littleEndian ll hh)) true (some [.Y]) (some [.A, .X]) none true)
      (fun _ => "LAS $".toList ++ hex2 hh ++ hex2 ll ++ ",Y".toList) ∧
    RowHolds (.axsImmCB ll) [ll]
      (rowRecord .AXS 0xCB .immediate 2 (some (zeroExtended ll)) false (some [.A, .X]) (some [.X]) none true)
      (fun _ => "AXS #$".toList ++ hex2 ll)

/-- The rows of HLT, NOP, SBC (R200, R219, R220): record, cursor,
fault, texts and bytes.
The values are the spec's own: [from general knowledge, not in source] and 92 D6 and D8 to D14 (log entry 14). -/
def Obligations.HaltAndDuplicateRows : Prop :=
  ∀ ll hh : Byte,
    RowHolds .hltImp02 []
      (rowRecord .HLT 0x02 .implied hltCyclesByte none false none none none true)
      (fun _ => "HLT".toList) ∧
    RowHolds .hltImp12 []
      (rowRecord .HLT 0x12 .implied hltCyclesByte none false none none none true)
      (fun _ => "HLT".toList) ∧
    RowHolds .hltImp22 []
      (rowRecord .HLT 0x22 .implied hltCyclesByte none false none none none true)
      (fun _ => "HLT".toList) ∧
    RowHolds .hltImp32 []
      (rowRecord .HLT 0x32 .implied hltCyclesByte none false none none none true)
      (fun _ => "HLT".toList) ∧
    RowHolds .hltImp42 []
      (rowRecord .HLT 0x42 .implied hltCyclesByte none false none none none true)
      (fun _ => "HLT".toList) ∧
    RowHolds .hltImp52 []
      (rowRecord .HLT 0x52 .implied hltCyclesByte none false none none none true)
      (fun _ => "HLT".toList) ∧
    RowHolds .hltImp62 []
      (rowRecord .HLT 0x62 .implied hltCyclesByte none false none none none true)
      (fun _ => "HLT".toList) ∧
    RowHolds .hltImp72 []
      (rowRecord .HLT 0x72 .implied hltCyclesByte none false none none none true)
      (fun _ => "HLT".toList) ∧
    RowHolds .hltImp92 []
      (rowRecord .HLT 0x92 .implied hltCyclesByte none false none none none true)
      (fun _ => "HLT".toList) ∧
    RowHolds .hltImpB2 []
      (rowRecord .HLT 0xB2 .implied hltCyclesByte none false none none none true)
      (fun _ => "HLT".toList) ∧
    RowHolds .hltImpD2 []
      (rowRecord .HLT 0xD2 .implied hltCyclesByte none false none none none true)
      (fun _ => "HLT".toList) ∧
    RowHolds .hltImpF2 []
      (rowRecord .HLT 0xF2 .implied hltCyclesByte none false none none none true)
      (fun _ => "HLT".toList) ∧
    RowHolds (.nopZp04 ll) [ll]
      (rowRecord .NOP 0x04 .zeropage 3 (some (zeroExtended ll)) false none none none true)
      (fun _ => "NOP $".toList ++ hex2 ll) ∧
    RowHolds (.nopAbs0C ll hh) [ll, hh]
      (rowRecord .NOP 0x0C .absolute 4 (some (littleEndian ll hh)) false none none none true)
      (fun _ => "NOP $".toList ++ hex2 hh ++ hex2 ll) ∧
    RowHolds (.nopZpx14 ll) [ll]
      (rowRecord .NOP 0x14 .zeropageIndexedX 4 (some (zeroExtended ll)) false (some [.X]) none none true)
      (fun _ => "NOP $".toList ++ hex2 ll ++ ",X".toList) ∧
    RowHolds .nopImp1A []
      (rowRecord .NOP 0x1A .implied 2 none false none none none true)
      (fun _ => "NOP".toList) ∧
    RowHolds (.nopAbx1C ll hh) [ll, hh]
      (rowRecord .NOP 0x1C (.absoluteIndexedX true) 4 (some (littleEndian ll hh)) true (some [.X]) none none true)
      (fun _ => "NOP $".toList ++ hex2 hh ++ hex2 ll ++ ",X".toList) ∧
    RowHolds (.nopZpx34 ll) [ll]
      (rowRecord .NOP 0x34 .zeropageIndexedX 4 (some (zeroExtended ll)) false (some [.X]) none none true)
      (fun _ => "NOP $".toList ++ hex2 ll ++ ",X".toList) ∧
    RowHolds .nopImp3A []
      (rowRecord .NOP 0x3A .implied 2 none false none none none true)
      (fun _ => "NOP".toList) ∧
    RowHolds (.nopAbx3C ll hh) [ll, hh]
      (rowRecord .NOP 0x3C (.absoluteIndexedX true) 4 (some (littleEndian ll hh)) true (some [.X]) none none true)
      (fun _ => "NOP $".toList ++ hex2 hh ++ hex2 ll ++ ",X".toList) ∧
    RowHolds (.nopZp44 ll) [ll]
      (rowRecord .NOP 0x44 .zeropage 3 (some (zeroExtended ll)) false none none none true)
      (fun _ => "NOP $".toList ++ hex2 ll) ∧
    RowHolds (.nopZpx54 ll) [ll]
      (rowRecord .NOP 0x54 .zeropageIndexedX 4 (some (zeroExtended ll)) false (some [.X]) none none true)
      (fun _ => "NOP $".toList ++ hex2 ll ++ ",X".toList) ∧
    RowHolds .nopImp5A []
      (rowRecord .NOP 0x5A .implied 2 none false none none none true)
      (fun _ => "NOP".toList) ∧
    RowHolds (.nopAbx5C ll hh) [ll, hh]
      (rowRecord .NOP 0x5C (.absoluteIndexedX true) 4 (some (littleEndian ll hh)) true (some [.X]) none none true)
      (fun _ => "NOP $".toList ++ hex2 hh ++ hex2 ll ++ ",X".toList) ∧
    RowHolds (.nopZp64 ll) [ll]
      (rowRecord .NOP 0x64 .zeropage 3 (some (zeroExtended ll)) false none none none true)
      (fun _ => "NOP $".toList ++ hex2 ll) ∧
    RowHolds (.nopZpx74 ll) [ll]
      (rowRecord .NOP 0x74 .zeropageIndexedX 4 (some (zeroExtended ll)) false (some [.X]) none none true)
      (fun _ => "NOP $".toList ++ hex2 ll ++ ",X".toList) ∧
    RowHolds .nopImp7A []
      (rowRecord .NOP 0x7A .implied 2 none false none none none true)
      (fun _ => "NOP".toList) ∧
    RowHolds (.nopAbx7C ll hh) [ll, hh]
      (rowRecord .NOP 0x7C (.absoluteIndexedX true) 4 (some (littleEndian ll hh)) true (some [.X]) none none true)
      (fun _ => "NOP $".toList ++ hex2 hh ++ hex2 ll ++ ",X".toList) ∧
    RowHolds (.nopImm80 ll) [ll]
      (rowRecord .NOP 0x80 .immediate 2 (some (zeroExtended ll)) false none none none true)
      (fun _ => "NOP #$".toList ++ hex2 ll) ∧
    RowHolds (.nopImm82 ll) [ll]
      (rowRecord .NOP 0x82 .immediate 2 (some (zeroExtended ll)) false none none none true)
      (fun _ => "NOP #$".toList ++ hex2 ll) ∧
    RowHolds (.nopImm89 ll) [ll]
      (rowRecord .NOP 0x89 .immediate 2 (some (zeroExtended ll)) false none none none true)
      (fun _ => "NOP #$".toList ++ hex2 ll) ∧
    RowHolds (.nopImmC2 ll) [ll]
      (rowRecord .NOP 0xC2 .immediate 2 (some (zeroExtended ll)) false none none none true)
      (fun _ => "NOP #$".toList ++ hex2 ll) ∧
    RowHolds (.nopZpxD4 ll) [ll]
      (rowRecord .NOP 0xD4 .zeropageIndexedX 4 (some (zeroExtended ll)) false (some [.X]) none none true)
      (fun _ => "NOP $".toList ++ hex2 ll ++ ",X".toList) ∧
    RowHolds .nopImpDA []
      (rowRecord .NOP 0xDA .implied 2 none false none none none true)
      (fun _ => "NOP".toList) ∧
    RowHolds (.nopAbxDC ll hh) [ll, hh]
      (rowRecord .NOP 0xDC (.absoluteIndexedX true) 4 (some (littleEndian ll hh)) true (some [.X]) none none true)
      (fun _ => "NOP $".toList ++ hex2 hh ++ hex2 ll ++ ",X".toList) ∧
    RowHolds (.nopImmE2 ll) [ll]
      (rowRecord .NOP 0xE2 .immediate 2 (some (zeroExtended ll)) false none none none true)
      (fun _ => "NOP #$".toList ++ hex2 ll) ∧
    RowHolds (.nopZpxF4 ll) [ll]
      (rowRecord .NOP 0xF4 .zeropageIndexedX 4 (some (zeroExtended ll)) false (some [.X]) none none true)
      (fun _ => "NOP $".toList ++ hex2 ll ++ ",X".toList) ∧
    RowHolds .nopImpFA []
      (rowRecord .NOP 0xFA .implied 2 none false none none none true)
      (fun _ => "NOP".toList) ∧
    RowHolds (.nopAbxFC ll hh) [ll, hh]
      (rowRecord .NOP 0xFC (.absoluteIndexedX true) 4 (some (littleEndian ll hh)) true (some [.X]) none none true)
      (fun _ => "NOP $".toList ++ hex2 hh ++ hex2 ll ++ ",X".toList) ∧
    RowHolds (.sbcImmEB ll) [ll]
      (rowRecord .SBC 0xEB .immediate 2 (some (zeroExtended ll)) false (some [.A]) (some [.A]) (some [.N, .V, .Z, .C]) true)
      (fun _ => "SBC #$".toList ++ hex2 ll)

/-! ### Encoding and decoding -/

/-- A few bytes written out from table T256, among them the five rows the source itself gives (R63), decode to the
instructions they stand for. -/
def Obligations.SpecBytesDecode : Prop :=
  decode [0x05, 0x0B] = .ok (.oraZp05 0x0B, []) ∧
  decode [0x6C, 0x01, 0x02] = .ok (.jmpInd6C 0x01 0x02, []) ∧
  decode [0x90, 0x02] = .ok (.bccRel90 0x02, []) ∧
  decode [0xA9, 0x44] = .ok (.ldaImmA9 0x44, []) ∧
  decode [0xAD] = .ok (.ldaAbsAD 0x00 0x00, []) ∧
  decode [0x02, 0xEA] = .ok (.hltImp02, [0xEA]) ∧
  decode [0xEB, 0x01] = .ok (.sbcImmEB 0x01, []) ∧
  decode [] = .error .noOpcodeByte

/-- Decoding what an instruction encodes to gives it back, at every operand value, and leaves the bytes after it. -/
def Obligations.DecodeEncodeRoundTrip : Prop :=
  ∀ (i : Instr) (rest : List Byte), decode (encode i ++ rest) = .ok (i, rest)

/-- No opcode byte is rejected, and an instruction decoded from enough bytes encodes to the bytes it came from. -/
def Obligations.EveryOpcodeByteDecodes : Prop :=
  ∀ (b : Byte) (rest : List Byte), ∃ i after, decode (b :: rest) = .ok (i, after) ∧ (encode i).head? = some b ∧
    ((encode i).length ≤ rest.length + 1 → encode i ++ after = b :: rest)

/-- The length of an instruction is one plus its mode's operand byte count, and operand bytes never change which row
is decoded. -/
def Obligations.LengthDependsOnOpcodeOnly : Prop :=
  ∀ (b : Byte) (r₁ r₂ x₁ x₂ : List Byte) (i₁ i₂ : Instr),
    decode (b :: r₁) = .ok (i₁, x₁) → decode (b :: r₂) = .ok (i₂, x₂) →
      (encode i₁).length = (encode i₂).length ∧ (encode i₁).length = 1 + operandCount (t256 b).mode

/-- A step runs the instruction that the bytes at the cursor decode to; nothing is added around it. -/
def Obligations.StepRunsDecodedInstruction : Prop :=
  ∀ (s : State) (i : Instr) (rest : List Byte),
    decode (s.mem.bytesFrom s.cursor Config.maxInstrBytes) = .ok (i, rest) → step s = exec i s

/-- A step on a buffer that holds an encoding at the cursor runs that instruction, and the next step runs the
instruction that follows it: the returned cursor is where the next instruction starts. -/
def Obligations.StepsRunConsecutiveEncodings : Prop :=
  ∀ (s : State) (i j : Instr) (bi bj : Byte) (xs ys : List Byte), encode i = bi :: xs → encode j = bj :: ys →
    BufferHolds s bi xs → BufferHolds { s with cursor := s.cursor + (1 + xs.length) } bj ys →
      ∃ t, step s = .next t ∧ t.cursor = s.cursor + (1 + xs.length) ∧ step t = exec j t

/-- A buffer that holds the encodings of any instructions one after another decodes to them in order, each decode
starting where the one before ended; after the last of them the next decode faults at the buffer's end. -/
def Obligations.EncodedSequenceDecodesInOrder : Prop :=
  ∀ (is : List Instr) (s : State), s.mem = Memory.ofBytes (is.map encode).flatten → s.cursor = 0 →
    (∀ (pre post : List Instr) (i : Instr), is = pre ++ i :: post → ∃ t u : State, SafeRun pre.length s t ∧
      t.cursor = ((pre.map encode).flatten).length ∧ step t = exec i t ∧ exec i t = .next u) ∧
    Host.Core.run core (is.length + 1) s = .fault (.decodePrecondition s.mem.length)

/-- The word that the opcode table numbers, placed at the cursor by the caller, is what the very next step runs. The
way a program comes to the machine is the model's choice: log entry 6. -/
def Obligations.FetchWordRunsTableWord : Prop :=
  ∀ (s : State) (nbits w : Nat) (i : Instr), s.mem.wf = true → decodeTableWord nbits w = some i →
    step (s.withFetchWord nbits w) = exec i (s.withFetchWord nbits w)

/-! ### The decode transaction -/

/-- The machine's step is the block's `Decode` transaction on the inputs the state holds. -/
def Obligations.StepRefinesDecodeTransaction : Prop :=
  ∀ s : State, step s =
    match decodeTransaction s.targetAddress s.cursor s.mem with
    | .next (r, c) => .next { s with record := some r, cursor := c }
    | .fault f => .fault f
    | .refused r => .refused r

/-- The operand fetcher's result for each of the 13 modes. -/
def Obligations.FetchOperandByMode : Prop :=
  ∀ (m : Memory) (c : Nat) (p : Bool),
    let one := some (m.readByte (c + 1))
    let two := some (littleEndian (lowByte (m.readByte (c + 1))) (lowByte (m.readByte (c + 2))))
    fetchOperand m .implied c = (none, false, c + 1) ∧
    fetchOperand m .accumulator c = (none, false, c + 1) ∧
    fetchOperand m .absolute c = (two, false, c + 3) ∧
    fetchOperand m .indirect c = (two, false, c + 3) ∧
    fetchOperand m (.absoluteIndexedX p) c = (two, p, c + 3) ∧
    fetchOperand m (.absoluteIndexedY p) c = (two, p, c + 3) ∧
    fetchOperand m .zeropage c = (one, false, c + 2) ∧
    fetchOperand m .zeropageIndexedX c = (one, false, c + 2) ∧
    fetchOperand m .zeropageIndexedY c = (one, false, c + 2) ∧
    fetchOperand m .immediate c = (one, false, c + 2) ∧
    fetchOperand m .indexedIndirectX c = (one, false, c + 2) ∧
    fetchOperand m .relative c = (one, true, c + 2) ∧
    fetchOperand m (.indirectIndexedY p) c = (one, p, c + 2)

/-- Every instruction completes where the caller keeps `cursor < L`: the record carries the instruction's opcode byte
and the caller's address, the cursor moves past its encoding, and the inputs stay as they were. -/
def Obligations.EveryInstructionCompletes : Prop :=
  ∀ (i : Instr) (s : State), s.mayDecode → ∃ (t : State) (r : Record), exec i s = .next t ∧ t.record = some r ∧
    (encode i).head? = some r.opcode.rawByte ∧ r.address = s.targetAddress ∧
    t.cursor = s.cursor + (encode i).length ∧ t.mem = s.mem ∧ t.targetAddress = s.targetAddress

/-- A decode completes exactly where the caller keeps `cursor < L`: no byte, no address and no missing operand byte
makes it stop. -/
def Obligations.StepCompletesExactlyWithinBuffer : Prop :=
  ∀ s : State, (∃ t, step s = .next t) ↔ s.mayDecode

/-- What a decode leaves unchanged: every byte of the buffer, its length, and the target address. -/
def Obligations.DecodeFrame : Prop :=
  ∀ (i : Instr) (s t : State), exec i s = .next t →
    (∀ a, t.mem.readByte a = s.mem.readByte a) ∧ t.mem = s.mem ∧ t.targetAddress = s.targetAddress

/-- The cursor advances by 1, 2 or 3, as the record's mode says, for truncated buffers too; the spec derives it from R102. -/
def Obligations.CursorAdvance : Prop :=
  ∀ s t : State, step s = .next t → ∃ r, t.record = some r ∧
    t.cursor = s.cursor + (if r.addressingMode.hasNoOperand then 1 else if r.addressingMode.hasOneByteOperand then 2 else 3)

/-- The record's operand is absent, the zero-extended byte after the opcode, or the little-endian word after it. -/
def Obligations.OperandFieldFromBuffer : Prop :=
  ∀ (s t : State) (r : Record), step s = .next t → t.record = some r →
    r.operand =
      if r.addressingMode = .implied ∨ r.addressingMode = .accumulator then none
      else if r.addressingMode.hasOneByteOperand then some (s.mem.readByte (s.cursor + 1))
      else some (littleEndian (lowByte (s.mem.readByte (s.cursor + 1))) (lowByte (s.mem.readByte (s.cursor + 2))))

/-- A decode whose operand bytes lie beyond the buffer completes with zeros for the missing bytes; its record is built
as ever, and its cursor advances as for a whole instruction. -/
def Obligations.TruncatedDecodeReadsZero : Prop :=
  ∀ s : State, s.cursor < s.mem.length →
    ∃ (t : State) (r : Record), step s = .next t ∧ t.record = some r ∧
      decodeTransaction s.targetAddress s.cursor s.mem = .next (r, t.cursor) ∧
      t.cursor = s.cursor + 1 + operandCount r.addressingMode ∧
      (s.mem.length ≤ s.cursor + 1 → operandCount r.addressingMode ≠ 0 → r.operand = some 0) ∧
      (s.mem.length = s.cursor + 2 → operandCount r.addressingMode = 2 →
        r.operand = some (zeroExtended (s.mem.opcodeByte (s.cursor + 1))))

/-- Which fields of a record depend on what: the opcode byte, the two bytes after it, the caller's target address. -/
def Obligations.FieldsFixedByOpcodeByte : Prop :=
  ∀ (s₁ s₂ t₁ t₂ : State) (r₁ r₂ : Record), step s₁ = .next t₁ → step s₂ = .next t₂ →
    t₁.record = some r₁ → t₂.record = some r₂ →
    s₁.mem.opcodeByte s₁.cursor = s₂.mem.opcodeByte s₂.cursor →
      r₁.address = s₁.targetAddress ∧ r₁.opcode = r₂.opcode ∧ r₁.addressingMode = r₂.addressingMode ∧
      r₁.cycles = r₂.cycles ∧ r₁.illegal = r₂.illegal ∧ r₁.registersRead = r₂.registersRead ∧
      r₁.registersWritten = r₂.registersWritten ∧ r₁.affectedFlags = r₂.affectedFlags ∧
      r₁.extraCycle = r₂.extraCycle ∧
      (s₁.mem.readByte (s₁.cursor + 1) = s₂.mem.readByte (s₂.cursor + 1) →
        s₁.mem.readByte (s₁.cursor + 2) = s₂.mem.readByte (s₂.cursor + 2) → r₁.operand = r₂.operand)

/-- No decode depends on an earlier record: states that differ only in the latched record decode alike. -/
def Obligations.DecodeIgnoresLatchedRecord : Prop :=
  ∀ (s : State) (old : Option Record), step { s with record := old } = step s

/-- The same bytes decode to the same record at any cursor, in any buffer and under any target address, but for the
record's address. -/
def Obligations.DecodeIsRelocatable : Prop :=
  ∀ (s₁ s₂ : State) (b : Byte) (xs : List Byte), xs.length = 2 → BufferHolds s₁ b xs → BufferHolds s₂ b xs →
    ∃ (t₁ t₂ : State) (r : Record) (n : Nat), step s₁ = .next t₁ ∧ step s₂ = .next t₂ ∧
      t₁.record = some { r with address := s₁.targetAddress } ∧ t₂.record = some { r with address := s₂.targetAddress } ∧
      t₁.cursor = s₁.cursor + n ∧ t₂.cursor = s₂.cursor + n

/-- The relations between the fields of a decoded record, which the spec derives. The bound on `cycles` rests on the
range of the free value `Config.hltCycles` (log entry 4). -/
def Obligations.DecodedRecordRelations : Prop :=
  ∀ (s t : State) (r : Record), step s = .next t → t.record = some r →
    (r.operand = none ↔ r.addressingMode = .implied ∨ r.addressingMode = .accumulator) ∧
    (operandCount r.addressingMode = 1 → ∃ v : Word, r.operand = some v ∧ v.toNat < 0x100) ∧
    (r.extraCycle = true ↔ r.addressingMode = .relative ∨ carried r.addressingMode = some true) ∧
    (r.illegal = inIllegalSet r.opcode.rawByte) ∧
    (r.illegal = true ↔ r.opcode.mnemonic ∈ undocumentedMnemonics ∨
      (r.opcode.mnemonic = .NOP ∧ r.opcode.rawByte ≠ 0xEA) ∨ r.opcode = { mnemonic := .SBC, rawByte := 0xEB }) ∧
    r.cycles.toNat ≤ 8

/-! ### The classifiers and resolvers -/

/-- `illegal` is set exactly on the 105 bytes that are not documented opcode bytes. Which bytes these are is the spec's
decision, 92 D14. -/
def Obligations.IllegalIffUndocumentedByte : Prop :=
  (∀ (s t : State) (r : Record), step s = .next t → t.record = some r →
    (r.illegal = true ↔ r.opcode.rawByte ∉ documentedBytes)) ∧
  (∀ b : Byte, b ∈ illegalSet ↔ b ∉ documentedBytes) ∧
  illegalSet.length = 105 ∧ illegalSet.Nodup ∧ documentedBytes.length = 151 ∧ documentedBytes.Nodup

/-- The page-cross boolean is true exactly on the indexed rows of the read-type mnemonics (the spec's decision, 92 D9). -/
def Obligations.PageCrossBooleanByMnemonic : Prop :=
  ∀ (s t : State) (r : Record) (p : Bool), step s = .next t → t.record = some r →
    carried r.addressingMode = some p → (p = true ↔ r.opcode.mnemonic ∈ pageCrossMnemonics)

/-- The register sets, register by register: the mnemonic's data registers, the accumulator form and the mode's index
register; a set without a member is absent (the spec's decisions, 92 D10 and D11). -/
def Obligations.RegisterSetsByRegister : Prop :=
  ∀ (s t : State) (r : Record), step s = .next t → t.record = some r →
    let mn := r.opcode.mnemonic
    let acc := mn ∈ shifts ∧ r.addressingMode = .accumulator
    (hasRegister .A r.registersRead = true ↔ mn ∈ readsA ∨ acc) ∧
    (hasRegister .X r.registersRead = true ↔ mn ∈ readsX ∨ indexedByX r.addressingMode = true) ∧
    (hasRegister .Y r.registersRead = true ↔ mn ∈ readsY ∨ indexedByY r.addressingMode = true) ∧
    (hasRegister .A r.registersWritten = true ↔ mn ∈ writesA ∨ acc) ∧
    (hasRegister .X r.registersWritten = true ↔ mn ∈ writesX) ∧
    (hasRegister .Y r.registersWritten = true ↔ mn ∈ writesY) ∧
    r.registersRead ≠ some RegSet.empty ∧ r.registersWritten ≠ some RegSet.empty

/-- The flag set, flag by flag; a set without a member is absent (the spec's decisions, 92 D11 to D13). -/
def Obligations.AffectedFlagsByFlag : Prop :=
  ∀ (s t : State) (r : Record), step s = .next t → t.record = some r →
    let mn := r.opcode.mnemonic
    (hasFlag .N r.affectedFlags = true ↔ mn ∈ altersN) ∧ (hasFlag .V r.affectedFlags = true ↔ mn ∈ altersV) ∧
    (hasFlag .B r.affectedFlags = true ↔ mn ∈ altersB) ∧ (hasFlag .D r.affectedFlags = true ↔ mn ∈ altersD) ∧
    (hasFlag .I r.affectedFlags = true ↔ mn ∈ altersI) ∧ (hasFlag .Z r.affectedFlags = true ↔ mn ∈ altersZ) ∧
    (hasFlag .C r.affectedFlags = true ↔ mn ∈ altersC) ∧ r.affectedFlags ≠ some FlagSet.empty

/-! ### The buffer -/

/-- `ReadByte` on the buffer that holds a byte sequence: the byte widened to 16 bits, zero past the end. -/
def Obligations.ReadByteOfByteSequence : Prop :=
  ∀ (bytes : List Byte) (i : Nat),
    (Memory.ofBytes bytes).length = bytes.length ∧
    (Memory.ofBytes bytes).readByte i = if h : i < bytes.length then zeroExtended bytes[i] else 0

/-- `ReadWordLE` on the buffer that holds a byte sequence, with its two truncated cases, which the spec derives. -/
def Obligations.ReadWordLittleEndian : Prop :=
  ∀ (bytes : List Byte) (c : Nat),
    let m := Memory.ofBytes bytes
    (m.readWordLE c).2 = c + 1 ∧
    (∀ h : c + 1 < bytes.length, (m.readWordLE c).1 = littleEndian bytes[c] bytes[c + 1]) ∧
    (∀ h : c + 1 = bytes.length, (m.readWordLE c).1 = zeroExtended bytes[c]) ∧
    (bytes.length ≤ c → (m.readWordLE c).1 = 0 ∧ m.readByte c = 0)

/-- A byte the caller changes between two decodes is what the next decode reads: as its opcode byte, or as an operand
byte. That nothing is cached is the spec's decision, 92 D18; that a byte put past the end lets the buffer grow, with zeros
in the gap, is the model's choice, log entry 7. -/
def Obligations.ChangedBufferIsSeen : Prop :=
  ∀ (s t : State) (k : Nat) (v : Byte), s.mem.wf = true → step s = .next t → k ≤ 2 →
    ∃ (u : State) (r : Record), step { t with mem := t.mem.put (t.cursor + k) v } = .next u ∧ u.record = some r ∧
      (k = 0 → r.opcode.rawByte = v) ∧
      (k = 1 → operandCount r.addressingMode ≠ 0 → r.operand.map lowByte = some v) ∧
      (k = 2 → operandCount r.addressingMode = 2 → r.operand.map highByte = some v)

/-! ### The fault -/

/-- `DecodePrecondition` is raised exactly when the cursor is at or past the buffer's end; it is the only fault, it
records the cursor, and no step refuses. -/
def Obligations.FaultExactlyAtOrPastTheEnd : Prop :=
  ∀ s : State, (∀ f, step s = .fault f ↔ s.mem.length ≤ s.cursor ∧ f = .decodePrecondition s.cursor) ∧
    ∀ r, step s ≠ .refused r

/-- The fault leaves nothing behind and nothing clears it but what the caller owns: after a fault, a state whose cursor is
the same and whose buffer is no longer faults alike, whatever its bytes, target address and latched record, and so does
every instruction run there. That the fault is the outcome and is final is the spec's decision, 92 D16 (log entry 10). -/
def Obligations.FaultDependsOnCursorAndLength : Prop :=
  ∀ (s s' : State) (f : Fault), step s = .fault f → s'.cursor = s.cursor → s'.mem.length ≤ s.mem.length →
    step s' = .fault f ∧ ∀ i, exec i s' = .fault f

/-- Decoding again and again always ends in the fault, within as many decodes as there are bytes left, at a cursor
that passed the end by at most two. -/
def Obligations.RepeatedDecodingReachesTheEnd : Prop :=
  ∀ s : State, s.cursor ≤ s.mem.length → ∃ (k c : Nat) (t : State), k ≤ s.mem.length - s.cursor ∧
    SafeRun k s t ∧ t.cursor = c ∧ s.mem.length ≤ c ∧ c ≤ s.mem.length + 2 ∧
    Host.Core.run core (k + 1) s = .fault (.decodePrecondition c)

/-! ### Invariant and reset -/

/-- A step keeps a state sound: the buffer canonical, and the latched record well formed and its opcode byte's. -/
def Obligations.StepKeepsInvariant : Prop :=
  ∀ s t : State, s.Inv → step s = .next t → t.Inv

def Obligations.ResetMeetsInvariant : Prop := State.reset.Inv

/-- At reset no record has been latched (R281). That there is then none of the three outputs is the model's reading of the
combinational formatter, log entry 18; that the first decode faults is its choice of the empty buffer, log entry 2. -/
def Obligations.ResetHasNoRecord : Prop :=
  State.reset.record = none ∧ State.reset.asHexStr = none ∧ State.reset.asStr = none ∧ State.reset.display = none ∧
    step State.reset = .fault (.decodePrecondition State.reset.cursor)

/-- The caller that the spec's test programs assume keeps `address = origin + cursor` modulo 2^16 across decodes. It is
no part of the block: 92 D26, log entry 15. -/
def Obligations.AssumedCallerKeepsOrigin : Prop :=
  ∀ (s t : State) (origin : Nat), s.targetAddress = BitVec.ofNat 16 (origin + s.cursor) → step s = .next t →
    (callerNext s t).targetAddress = BitVec.ofNat 16 (origin + (callerNext s t).cursor) ∧
    (callerNext s t).cursor = t.cursor ∧ (callerNext s t).record = t.record

/-! ### The formatter -/

/-- Each mnemonic is spelled with its three letters; there are 56 documented and 19 undocumented mnemonics, and no
others. The documented list is the spec's own, [from general knowledge, not in source]. -/
def Obligations.MnemonicsAreSpelled : Prop :=
  (∀ p ∈ documentedNames ++ undocumentedNames, mnemonicText p.1 = p.2.toList ∧ p.2.toList.length = 3) ∧
  (∀ m, m ∈ (documentedNames ++ undocumentedNames).map Prod.fst) ∧
  documentedNames.length = 56 ∧ undocumentedNames.length = 19 ∧
  ((documentedNames ++ undocumentedNames).map Prod.fst).Nodup

/-- The hexadecimal spellings, digit by digit. The upper-case letters are the spec's decision, 92 D19. -/
def Obligations.HexDigitsSpellValues : Prop :=
  (∀ v : Byte, hex2 v = [digit (v.toNat / 16), digit (v.toNat % 16)]) ∧
  (∀ v : Word, hex4 v = [digit (v.toNat / 4096), digit (v.toNat / 256 % 16), digit (v.toNat / 16 % 16), digit (v.toNat % 16)])

/-- Every decoded record is formatted by all three outputs. -/
def Obligations.DecodedRecordsAreFormatted : Prop :=
  ∀ (s t : State) (r : Record), step s = .next t → t.record = some r →
    (∃ x, asHexStr r = .ok x) ∧ (∃ x, asStr r = .ok x) ∧ ∃ x, display r = .ok x

/-- The formatter refuses exactly the records that `Decode` could not have produced, and gives a text for each other one
(R239; the spec's decision, 92 D24); a `Relative` record has its target exactly then. Among the refused are all that
break R108(a), R108(b) or R108(c). -/
def Obligations.FormatterRefusesOutsideDomain : Prop :=
  ∀ r : Record,
    (Produced r → (∃ x, asHexStr r = .ok x) ∧ (∃ x, asStr r = .ok x) ∧ (∃ x, display r = .ok x) ∧
      (r.addressingMode = .relative → ∃ v, relTarget r = some (.ok v))) ∧
    (¬ Produced r → asHexStr r = .error .formatOutsideDomain ∧ asStr r = .error .formatOutsideDomain ∧
      display r = .error .formatOutsideDomain ∧
      (r.addressingMode = .relative → relTarget r = some (.error .formatOutsideDomain))) ∧
    (¬ (r.operand = none ↔ r.addressingMode = .implied ∨ r.addressingMode = .accumulator) → ¬ Produced r) ∧
    (∀ v, operandCount r.addressingMode = 1 → r.operand = some v → 0x100 ≤ v.toNat → ¬ Produced r) ∧
    (¬ (r.extraCycle = true ↔ r.addressingMode = .relative ∨ carried r.addressingMode = some true) → ¬ Produced r)

/-- Which records `Decode` produces: exactly those whose operand meets R108(a) and R108(b), whose mnemonic, mode, cycles,
sets, illegal mark and extra cycle are those of their own raw byte, with any operand of the width and any address. -/
def Obligations.ProducedRecordsAreTableRecords : Prop :=
  ∀ r : Record, Produced r ↔
    ((r.operand = none ↔ r.addressingMode = .implied ∨ r.addressingMode = .accumulator) ∧
      (∀ v, operandCount r.addressingMode = 1 → r.operand = some v → v.toNat < 0x100)) ∧
    recordMatchesTable r ∧ (r.extraCycle = true ↔ r.addressingMode = .relative ∨ carried r.addressingMode = some true)

/-- The hex string is the opcode byte and the operand bytes in buffer order, in a fixed field. -/
def Obligations.HexStringShowsEncoding : Prop :=
  ∀ (i : Instr) (s t : State) (r : Record) (b : Byte) (xs : List Byte), exec i s = .next t → t.record = some r →
    encode i = b :: xs → asHexStr r = .ok (hexLine b xs)

/-- Every hex string has exactly 8 characters; with the three examples the spec derives. -/
def Obligations.HexStringHasEightCharacters : Prop :=
  (∀ (r : Record) (x : Text), asHexStr r = .ok x → x.length = 8) ∧
  (∀ s, hexOf (.oraZp05 0x0B) s "05 0B   ") ∧ (∀ s, hexOf .nopImpEA s "EA      ") ∧
  (∀ s, hexOf (.jmpInd6C 0x01 0x02) s "6C 01 02")

/-- The assembler text of each addressing mode, from the bytes after the opcode. The suffixes and the one space are the
spec's decisions, 92 D20 and D21. -/
def Obligations.OperandTextByMode : Prop :=
  ∀ (s t : State) (r : Record), step s = .next t → t.record = some r →
    asStr r = .ok (textOf r.opcode.mnemonic s.targetAddress (lowByte (s.mem.readByte (s.cursor + 1)))
      (lowByte (s.mem.readByte (s.cursor + 2))) r.addressingMode)

/-- Of two records that agree in mnemonic, mode, address and operand, the mnemonic strings are equal and the hex strings
differ in the raw byte's digits at most: no other field shows, the illegal mark among them (92 D23). -/
def Obligations.TextIgnoresUnrenderedFields : Prop :=
  ∀ (r r' : Record), r'.opcode.mnemonic = r.opcode.mnemonic → r'.addressingMode = r.addressingMode →
    r'.address = r.address → r'.operand = r.operand →
      (∀ x x', asStr r = .ok x → asStr r' = .ok x' → x' = x) ∧
      (∀ x x', asHexStr r = .ok x → asHexStr r' = .ok x' → x'.drop 2 = x.drop 2) ∧
      (∀ x x', display r = .ok x → display r' = .ok x' → x'.take 7 = x.take 7 ∧ x'.drop 9 = x.drop 9)

/-- The display line is the address, the hex string and the mnemonic string with their separators (92 D22). -/
def Obligations.DisplayLineIsComposed : Prop :=
  ∀ (r : Record) (h x : Text), asHexStr r = .ok h → asStr r = .ok x →
    display r = .ok ("$".toList ++ hex4 r.address ++ ": ".toList ++ h ++ " ".toList ++ x)

/-- The relative target of a decode is `address + 2 + offset` modulo 2^16, the offset byte after the opcode being from -128
to 127; a `Relative` record that `Decode` could not have produced is refused (92 D24); a record of another mode has no
target (R240; that the model says so of every such record is log entry 11). -/
def Obligations.RelativeTargetWraps : Prop :=
  (∀ (s t : State) (r : Record), step s = .next t → t.record = some r → r.addressingMode = .relative →
    ∃ v : Word, relTarget r = some (.ok v) ∧ (v.toNat : Int) =
      ((s.targetAddress.toNat : Int) + 2 + (lowByte (s.mem.readByte (s.cursor + 1))).toInt) % 65536) ∧
  (∀ r : Record, r.addressingMode = .relative → ¬ Produced r → relTarget r = some (.error .formatOutsideDomain)) ∧
  (∀ r : Record, r.addressingMode ≠ .relative → relTarget r = none)

/-- The corner cases of the relative target, which the spec derives from R236. -/
def Obligations.RelativeTargetCornerCases : Prop :=
  relTargetOf 0x0800 0x0002 = 0x0804 ∧ (∀ a : Word, relTargetOf a 0x00FE = a) ∧
  relTargetOf 0xFFF0 0x007F = 0x0071 ∧ relTargetOf 0x0000 0x0080 = 0xFF82 ∧ relTargetOf 0xFFFE 0x0000 = 0x0000

/-- Every output is a string of ASCII characters (the spec's decision, 92 D28). -/
def Obligations.OutputsAreAscii : Prop :=
  ∀ (r : Record) (x : Text), (asHexStr r = .ok x ∨ asStr r = .ok x ∨ display r = .ok x) → ∀ ch ∈ x, ch.toNat < 128
end

