-- ==== Sys2Proof/Laws/State.lean ====
section
/-!
SUPPORT. One lemma for each field under each update of the state.
-/

namespace Sys2Proof.Machine

variable (s t : State) (r : Record) (c : Nat)

@[simp] theorem State.complete_mem : (s.complete r c).mem = s.mem := rfl
@[simp] theorem State.complete_cursor : (s.complete r c).cursor = c := rfl
@[simp] theorem State.complete_targetAddress : (s.complete r c).targetAddress = s.targetAddress := rfl
@[simp] theorem State.complete_record : (s.complete r c).record = some r := rfl

@[simp] theorem State.request_mem (a : Word) (m : Memory) : (s.request a c m).mem = m := rfl
@[simp] theorem State.request_cursor (a : Word) (m : Memory) : (s.request a c m).cursor = c := rfl
@[simp] theorem State.request_targetAddress (a : Word) (m : Memory) : (s.request a c m).targetAddress = a := rfl
@[simp] theorem State.request_record (a : Word) (m : Memory) : (s.request a c m).record = s.record := rfl

@[simp] theorem State.withFetchWord_mem (n w : Nat) :
    (s.withFetchWord n w).mem = s.mem.place s.cursor (wordBytes n w) := rfl
@[simp] theorem State.withFetchWord_cursor (n w : Nat) : (s.withFetchWord n w).cursor = s.cursor := rfl
@[simp] theorem State.withFetchWord_targetAddress (n w : Nat) :
    (s.withFetchWord n w).targetAddress = s.targetAddress := rfl
@[simp] theorem State.withFetchWord_record (n w : Nat) : (s.withFetchWord n w).record = s.record := rfl

@[simp] theorem callerNext_mem : (callerNext s t).mem = t.mem := rfl
@[simp] theorem callerNext_cursor : (callerNext s t).cursor = t.cursor := rfl
@[simp] theorem callerNext_record : (callerNext s t).record = t.record := rfl
@[simp] theorem callerNext_targetAddress :
    (callerNext s t).targetAddress = s.targetAddress + BitVec.ofNat 16 (t.cursor - s.cursor) := rfl

@[simp] theorem Memory.put_length (m : Memory) (i : Nat) (v : Byte) : (m.put i v).length = max m.length (i + 1) := rfl
@[simp] theorem Memory.put_cells (m : Memory) (i : Nat) (v : Byte) : (m.put i v).cells = setCell i v m.cells := rfl

end Sys2Proof.Machine
end

