-- ==== Sys2Proof/Laws/Memory.lean ====
section
/-!
SUPPORT. The buffer: read after write, the canonical form and what keeps it, and that the canonical form is canonical.
-/

namespace Sys2Proof.Machine

/-! ### Cells -/

theorem cellsWf_cons {lo len a : Nat} {v : Byte} {rest : List Host.Cell} :
    cellsWf lo len ((a, v) :: rest) = true ↔
      lo ≤ a ∧ a < len ∧ v ≠ Memory.unlisted ∧ cellsWf (a + 1) len rest = true := by
  simp [cellsWf, and_assoc]

theorem cellsWf_mono {cells : List Host.Cell} {lo lo' len len' : Nat} (hlo : lo' ≤ lo) (hlen : len ≤ len')
    (h : cellsWf lo len cells = true) : cellsWf lo' len' cells = true := by
  induction cells generalizing lo lo' with
  | nil => rfl
  | cons c rest ih =>
    obtain ⟨a, v⟩ := c
    rw [cellsWf_cons] at h ⊢
    exact ⟨by omega, by omega, h.2.2.1, ih le_rfl h.2.2.2⟩

/-- An address below every listed one reads as the unlisted value. -/
theorem lookupCell_of_lt {cells : List Host.Cell} {lo len i : Nat} (h : cellsWf lo len cells = true) (hi : i < lo) :
    lookupCell cells i = Memory.unlisted := by
  induction cells generalizing lo with
  | nil => rfl
  | cons c rest ih =>
    obtain ⟨a, v⟩ := c
    rw [cellsWf_cons] at h
    rw [lookupCell, if_neg (by omega), ih h.2.2.2 (by omega)]

theorem lookupCell_setCell_same {cells : List Host.Cell} {lo len i : Nat} {v : Byte}
    (h : cellsWf lo len cells = true) : lookupCell (setCell i v cells) i = v := by
  induction cells generalizing lo with
  | nil => by_cases hv : v = Memory.unlisted <;> simp [setCell, lookupCell, hv]
  | cons c rest ih =>
    obtain ⟨a, x⟩ := c
    rw [cellsWf_cons] at h
    by_cases h1 : i < a
    · have hrest := lookupCell_of_lt h.2.2.2 (i := i) (by omega)
      by_cases hv : v = Memory.unlisted <;> simp [setCell, lookupCell, h1, hv, hrest]; omega
    · by_cases h2 : i = a
      · have hrest := lookupCell_of_lt h.2.2.2 (i := i) (by omega)
        subst h2
        by_cases hv : v = Memory.unlisted <;> simp [setCell, lookupCell, hv, hrest]
      · simp [setCell, lookupCell, h1, h2, ih h.2.2.2]

theorem lookupCell_setCell_other {cells : List Host.Cell} {i j : Nat} {v : Byte} (hij : j ≠ i) :
    lookupCell (setCell i v cells) j = lookupCell cells j := by
  induction cells with
  | nil => by_cases hv : v = Memory.unlisted <;> simp [setCell, lookupCell, hv, hij]
  | cons c rest ih =>
    obtain ⟨a, x⟩ := c
    by_cases h1 : i < a
    · by_cases hv : v = Memory.unlisted <;> simp [setCell, lookupCell, h1, hv, hij]
    · by_cases h2 : i = a
      · subst h2
        by_cases hv : v = Memory.unlisted <;> simp [setCell, lookupCell, hv, hij]
      · simp [setCell, lookupCell, h1, h2, ih]

theorem cellsWf_setCell {cells : List Host.Cell} {lo len i : Nat} {v : Byte} (h : cellsWf lo len cells = true)
    (hlo : lo ≤ i) (hi : i < len) : cellsWf lo len (setCell i v cells) = true := by
  induction cells generalizing lo with
  | nil => by_cases hv : v = Memory.unlisted <;> simp [setCell, cellsWf, hv, hlo, hi]
  | cons c rest ih =>
    obtain ⟨a, x⟩ := c
    have h' := cellsWf_cons.1 h
    by_cases h1 : i < a
    · by_cases hv : v = Memory.unlisted
      · simpa [setCell, h1, hv] using h
      · simp only [setCell, h1, hv, if_true, if_false]
        exact cellsWf_cons.2 ⟨hlo, hi, hv, cellsWf_cons.2 ⟨by omega, h'.2⟩⟩
    · by_cases h2 : i = a
      · by_cases hv : v = Memory.unlisted
        · simpa [setCell, h1, h2, hv] using cellsWf_mono (by omega) le_rfl h'.2.2.2
        · simp only [setCell, h2, hv, if_true, if_false, lt_irrefl]
          exact cellsWf_cons.2 ⟨h'.1, h'.2.1, hv, h'.2.2.2⟩
      · simp only [setCell, h1, h2, if_false]
        exact cellsWf_cons.2 ⟨h'.1, h'.2.1, h'.2.2.1, ih h'.2.2.2 (by omega)⟩

/-- Two lists of cells in the canonical form that read alike are equal. -/
theorem cells_ext {xs ys : List Host.Cell} {lo len : Nat} (hx : cellsWf lo len xs = true)
    (hy : cellsWf lo len ys = true) (h : ∀ i, lookupCell xs i = lookupCell ys i) : xs = ys := by
  induction xs generalizing ys lo with
  | nil =>
    cases ys with
    | nil => rfl
    | cons c ys =>
      obtain ⟨b, y⟩ := c
      rw [cellsWf_cons] at hy
      exact absurd (by simpa [lookupCell] using (h b).symm) hy.2.2.1
  | cons c xs ih =>
    obtain ⟨a, x⟩ := c
    rw [cellsWf_cons] at hx
    cases ys with
    | nil => exact absurd (by simpa [lookupCell] using h a) hx.2.2.1
    | cons d ys =>
      obtain ⟨b, y⟩ := d
      rw [cellsWf_cons] at hy
      have hab : a = b := by
        rcases Nat.lt_trichotomy a b with hlt | heq | hgt
        · have := h a
          rw [lookupCell, if_pos rfl, lookupCell, if_neg (by omega), lookupCell_of_lt hy.2.2.2 (by omega)] at this
          exact absurd this hx.2.2.1
        · exact heq
        · have := h b
          rw [lookupCell, if_neg (by omega), lookupCell, if_pos rfl, lookupCell_of_lt hx.2.2.2 (by omega)] at this
          exact absurd this.symm hy.2.2.1
      subst hab
      have hxy : x = y := by simpa [lookupCell] using h a
      subst hxy
      rw [ih hx.2.2.2 hy.2.2.2 fun i => ?_]
      by_cases hi : a = i
      · subst hi
        rw [lookupCell_of_lt hx.2.2.2 (by omega), lookupCell_of_lt hy.2.2.2 (by omega)]
      · have := h i
        rwa [lookupCell, if_neg (Ne.symm hi), lookupCell, if_neg (Ne.symm hi)] at this

/-! ### The buffer -/

theorem Memory.put_wf {m : Memory} (h : m.wf = true) (i : Nat) (v : Byte) : (m.put i v).wf = true :=
  cellsWf_setCell (cellsWf_mono le_rfl (by simp) h) (Nat.zero_le i) (by simp)

theorem Memory.place_wf {m : Memory} (h : m.wf = true) (i : Nat) (bytes : List Byte) : (m.place i bytes).wf = true := by
  induction bytes generalizing m i with
  | nil => exact h
  | cons v rest ih => exact ih (Memory.put_wf h i v) (i + 1)

theorem Memory.ofBytes_wf (bytes : List Byte) : (Memory.ofBytes bytes).wf = true := Memory.place_wf rfl 0 bytes

theorem Memory.put_lookup_same {m : Memory} (h : m.wf = true) (i : Nat) (v : Byte) :
    lookupCell (m.put i v).cells i = v := lookupCell_setCell_same h

theorem Memory.put_lookup_other {m : Memory} {i j : Nat} (v : Byte) (hij : j ≠ i) :
    lookupCell (m.put i v).cells j = lookupCell m.cells j := lookupCell_setCell_other hij

theorem Memory.place_length (m : Memory) (i : Nat) (bytes : List Byte) :
    (m.place i bytes).length = if bytes = [] then m.length else max m.length (i + bytes.length) := by
  induction bytes generalizing m i with
  | nil => rfl
  | cons v rest ih =>
    rw [Memory.place, ih]
    by_cases hr : rest = []
    · simp [hr]
    · simp only [hr, if_false, Memory.put_length, List.length_cons, reduceCtorEq]
      omega

/-- Placing bytes leaves every address below them alone. -/
theorem Memory.place_lookup_below {m : Memory} {i j : Nat} (bytes : List Byte) (hj : j < i) :
    lookupCell (m.place i bytes).cells j = lookupCell m.cells j := by
  induction bytes generalizing m i with
  | nil => rfl
  | cons v rest ih => rw [Memory.place, ih (by omega), Memory.put_lookup_other v (by omega)]

/-- The bytes placed are the bytes read. -/
theorem Memory.place_lookup {m : Memory} (h : m.wf = true) (i : Nat) (bytes : List Byte) {k : Nat}
    (hk : k < bytes.length) : lookupCell (m.place i bytes).cells (i + k) = bytes[k] := by
  induction bytes generalizing m i k with
  | nil => exact absurd hk (by simp)
  | cons v rest ih =>
    rw [Memory.place]
    cases k with
    | zero =>
      change lookupCell ((m.put i v).place (i + 1) rest).cells i = v
      rw [Memory.place_lookup_below rest (Nat.lt_add_one i), Memory.put_lookup_same h]
    | succ k =>
      have := ih (Memory.put_wf h i v) (i + 1) (k := k) (by simpa using hk)
      rw [show i + (k + 1) = i + 1 + k by omega, this, List.getElem_cons_succ]

theorem Memory.bytesFrom_succ (m : Memory) (c n : Nat) :
    m.bytesFrom c (n + 1) = if c < m.length then lookupCell m.cells c :: m.bytesFrom (c + 1) n else [] := rfl

/-- Beyond its end the buffer reads as zero. -/
theorem Memory.readByte_of_ge {m : Memory} {i : Nat} (h : m.length ≤ i) : m.readByte i = 0 := if_neg (by omega)

theorem Memory.readByte_of_lt {m : Memory} {i : Nat} (h : i < m.length) : m.readByte i = zext16 (lookupCell m.cells i) :=
  if_pos h

/-- Two buffers in the canonical form, equally long and reading alike, are equal. -/
theorem Memory.ext_of_wf {m n : Memory} (hm : m.wf = true) (hn : n.wf = true) (hlen : m.length = n.length)
    (h : ∀ i, lookupCell m.cells i = lookupCell n.cells i) : m = n := by
  obtain ⟨lm, cm⟩ := m
  obtain ⟨ln, cn⟩ := n
  obtain rfl : lm = ln := hlen
  exact congrArg _ (cells_ext hm hn h)

end Sys2Proof.Machine
end

