-- ==== Sys2Proof/Laws/Operands.lean ====
section
/-!
SUPPORT. Bytes and words: taking apart what was put together.
-/

namespace Sys2Proof.Machine

theorem zext16_toNat (v : Byte) : (zext16 v).toNat = v.toNat := by
  have := v.isLt
  simp [zext16]
  omega

theorem lowByte_toNat (v : Word) : (lowByte v).toNat = v.toNat % 256 := by simp [lowByte]

theorem highByte_toNat (v : Word) : (highByte v).toNat = v.toNat / 256 := by
  have := v.isLt
  simp [highByte, Nat.shiftRight_eq_div_pow]
  omega

/-- The word that `ReadWordLE` assembles, as a number. -/
theorem assembleWord_toNat (lo hi : Byte) : (assembleWord lo hi).toNat = 256 * hi.toNat + lo.toNat := by
  have hh := hi.isLt
  have hl := lo.isLt
  have hs : (zext16 hi <<< 8).toNat = hi.toNat <<< 8 := by
    rw [BitVec.toNat_shiftLeft, zext16_toNat, Nat.shiftLeft_eq, Nat.mod_eq_of_lt (by omega)]
  rw [assembleWord, BitVec.toNat_or, hs, zext16_toNat, ← Nat.shiftLeft_add_eq_or_of_lt (by omega), Nat.shiftLeft_eq]
  omega

@[simp] theorem lowByte_zext16 (v : Byte) : lowByte (zext16 v) = v := by
  have := v.isLt
  apply BitVec.eq_of_toNat_eq
  rw [lowByte_toNat, zext16_toNat]
  omega

@[simp] theorem lowByte_assembleWord (lo hi : Byte) : lowByte (assembleWord lo hi) = lo := by
  have := lo.isLt
  apply BitVec.eq_of_toNat_eq
  rw [lowByte_toNat, assembleWord_toNat]
  omega

@[simp] theorem highByte_assembleWord (lo hi : Byte) : highByte (assembleWord lo hi) = hi := by
  have := lo.isLt
  apply BitVec.eq_of_toNat_eq
  rw [highByte_toNat, assembleWord_toNat]
  omega

/-- A word whose high byte is zero is its low byte, zero-extended. -/
theorem assembleWord_zero (lo : Byte) : assembleWord lo 0 = zext16 lo := by
  apply BitVec.eq_of_toNat_eq
  rw [assembleWord_toNat, zext16_toNat]
  simp

/-- The two readings of R8's `sext_16`. -/
theorem sext16_eq_signExtend (v : Byte) : sext16 v = v.signExtend 16 := by
  revert v
  decide

end Sys2Proof.Machine
end

