-- ==== Sys2Proof/Laws/Ops.lean ====
section
/-!
SUPPORT. What the shared operations can do: completing a decode, the formats of opcode bytes, fetching an instruction.
-/

namespace Sys2Proof.Machine

/-! ### Completing a decode -/

theorem deliver_of_lt {b : Byte} {mn : Mnemonic} {mode : AddressingMode} {cycles : Byte} {operand : Option Word}
    {s : State} (h : s.cursor < s.mem.length) : deliver b mn mode cycles operand s =
      .next (s.complete (buildRecord s.targetAddress b mn mode cycles operand) (s.cursor + 1 + operandCount mode)) :=
  if_pos h

theorem deliver_of_ge {b : Byte} {mn : Mnemonic} {mode : AddressingMode} {cycles : Byte} {operand : Option Word}
    {s : State} (h : s.mem.length ≤ s.cursor) :
    deliver b mn mode cycles operand s = .fault (.decodePrecondition s.cursor) :=
  if_neg (by omega)

/-- If a decode answers a next state, the cursor was in the buffer and the state is the completed one. -/
theorem deliver_next {b : Byte} {mn : Mnemonic} {mode : AddressingMode} {cycles : Byte} {operand : Option Word}
    {s t : State} (h : deliver b mn mode cycles operand s = .next t) : s.cursor < s.mem.length ∧
      t = s.complete (buildRecord s.targetAddress b mn mode cycles operand) (s.cursor + 1 + operandCount mode) := by
  by_cases hc : s.cursor < s.mem.length
  · rw [deliver_of_lt hc] at h
    exact ⟨hc, (Host.Outcome.next.inj h).symm⟩
  · rw [deliver_of_ge (by omega)] at h
    cases h

/-! ### Fetching -/

/-- The bytes at the cursor, where there are any: the opcode byte, then the operand bytes that exist. -/
theorem Memory.bytesFrom_three {m : Memory} {c : Nat} (h : c < m.length) : ∃ rest, m.bytesFrom c 3 = m.opcodeByte c :: rest ∧
    zext16 (rest.headD 0) = m.readByte (c + 1) ∧ zext16 ((rest.drop 1).headD 0) = m.readByte (c + 2) := by
  refine ⟨m.bytesFrom (c + 1) 2, by rw [Memory.bytesFrom_succ, if_pos h]; rfl, ?_, ?_⟩ <;>
    by_cases h1 : c + 1 < m.length <;> by_cases h2 : c + 2 < m.length <;>
    first
    | omega
    | simp [Memory.bytesFrom, Memory.readByte, h1, h2, zext16]

/-- The instruction a format gives with its operand bytes. -/
def formInstr : Form → Byte → Byte → Instr
  | .f1 i, _, _ => i
  | .f2 mk, ll, _ => mk ll
  | .f3 mk, ll, hh => mk ll hh

theorem decode_cons (b : Byte) (rest : List Byte) : ∃ after,
    decode (b :: rest) = .ok (formInstr (form b) (rest.headD 0) ((rest.drop 1).headD 0), after) := by
  simp only [decode]
  cases form b <;> exact ⟨_, rfl⟩

theorem fetchInstr_of_lt {s : State} (h : s.cursor < s.mem.length) : fetchInstr s =
    some (formInstr (form (s.mem.opcodeByte s.cursor)) (lowByte (s.mem.readByte (s.cursor + 1)))
      (lowByte (s.mem.readByte (s.cursor + 2)))) := by
  obtain ⟨rest, hb, h1, h2⟩ := Memory.bytesFrom_three h
  obtain ⟨after, hd⟩ := decode_cons (s.mem.opcodeByte s.cursor) rest
  simp only [fetchInstr, Config.maxInstrBytes, hb, hd, ← h1, ← h2, lowByte_zext16]

theorem fetchInstr_of_ge {s : State} (h : s.mem.length ≤ s.cursor) : fetchInstr s = none := by
  have hb : s.mem.bytesFrom s.cursor 3 = [] := by rw [Memory.bytesFrom_succ, if_neg (by omega)]
  simp only [fetchInstr, Config.maxInstrBytes, hb, decode]

/-- What a step does within the buffer: it runs the instruction that the opcode byte and the two bytes after it give,
bytes beyond the end being zero. -/
theorem step_of_lt {s : State} (h : s.cursor < s.mem.length) : step s =
    exec (formInstr (form (s.mem.opcodeByte s.cursor)) (lowByte (s.mem.readByte (s.cursor + 1)))
      (lowByte (s.mem.readByte (s.cursor + 2)))) s := by
  rw [step, fetchInstr_of_lt h]

theorem step_of_ge {s : State} (h : s.mem.length ≤ s.cursor) : step s = .fault (.decodePrecondition s.cursor) := by
  rw [step, fetchInstr_of_ge h]; rfl

end Sys2Proof.Machine
end

