-- ==== Sys2Proof/Laws/Exec.lean ====
section
/-!
SUPPORT. The one spec lemma of the meanings: every arm of `exec` is the shared operation `Decode` with the constants
that table T256 has for the instruction's opcode byte. Claims about all instructions cite it and unfold no arm.
-/

namespace Sys2Proof.Machine

/-- The opcode byte of an instruction. -/
def opcodeByteOf (i : Instr) : Byte := (encode i).headD 0

/-- The operand value of an instruction, from its operand bytes (30_encoding.md R61). -/
def operandOf (i : Instr) : Option Word :=
  match (encode i).tail with
  | [] => none
  | [ll] => some (zext16 ll)
  | ll :: hh :: _ => some (assembleWord ll hh)

theorem exec_row {i : Instr} {b : Byte} {rest : List Byte} {s : State} (he : encode i = b :: rest)
    (h : exec i s = deliver b (t256 b).mnemonic (t256 b).mode (t256 b).cycles (operandOf i) s) : exec i s =
    deliver (opcodeByteOf i) (t256 (opcodeByteOf i)).mnemonic (t256 (opcodeByteOf i)).mode
      (t256 (opcodeByteOf i)).cycles (operandOf i) s := by
  rw [opcodeByteOf, he]
  exact h

theorem exec_eq_deliver (i : Instr) (s : State) : exec i s =
    deliver (opcodeByteOf i) (t256 (opcodeByteOf i)).mnemonic (t256 (opcodeByteOf i)).mode
      (t256 (opcodeByteOf i)).cycles (operandOf i) s := by
  cases i <;> exact exec_row rfl rfl

/-- The state that the decode of `i` leaves. -/
def afterDecode (i : Instr) (s : State) : State :=
  s.complete
    (buildRecord s.targetAddress (opcodeByteOf i) (t256 (opcodeByteOf i)).mnemonic (t256 (opcodeByteOf i)).mode
      (t256 (opcodeByteOf i)).cycles (operandOf i))
    (s.cursor + 1 + operandCount (t256 (opcodeByteOf i)).mode)

theorem exec_of_lt (i : Instr) {s : State} (h : s.cursor < s.mem.length) : exec i s = .next (afterDecode i s) := by
  rw [exec_eq_deliver, deliver_of_lt h]; rfl

theorem exec_of_ge (i : Instr) {s : State} (h : s.mem.length ≤ s.cursor) :
    exec i s = .fault (.decodePrecondition s.cursor) := by
  rw [exec_eq_deliver, deliver_of_ge h]

/-- The one way `exec` answers a next state. -/
theorem exec_next {i : Instr} {s t : State} (h : exec i s = .next t) :
    s.cursor < s.mem.length ∧ t = afterDecode i s := by
  rw [exec_eq_deliver] at h
  exact deliver_next h

theorem operandCount_le (mode : AddressingMode) : operandCount mode ≤ 2 := by cases mode <;> simp [operandCount]

/-- What the instruction that a format gives encodes to: the byte the format is for, and as many of the operand bytes
as its row's mode has. -/
theorem encode_formInstr (b ll hh : Byte) :
    encode (formInstr (form b) ll hh) = b :: [ll, hh].take (operandCount (t256 b).mode) := by
  have h : ∀ n, n < 256 → encode (formInstr (form (BitVec.ofNat 8 n)) ll hh) =
      BitVec.ofNat 8 n :: [ll, hh].take (operandCount (t256 (BitVec.ofNat 8 n)).mode) := by
    intro n hn
    interval_cases n <;> rfl
  simpa using h b.toNat b.isLt

/-- The opcode byte of the instruction that a format gives is the byte the format is for. -/
theorem opcodeByteOf_form (b ll hh : Byte) : opcodeByteOf (formInstr (form b) ll hh) = b := by
  rw [opcodeByteOf, encode_formInstr]
  rfl

/-! ### A step -/

/-- An operand value by the number of operand bytes (30_encoding.md R61). -/
def operandOfCount (ll hh : Byte) : Nat → Option Word
  | 0 => none
  | 1 => some (zext16 ll)
  | _ => some (assembleWord ll hh)

theorem operandOf_formInstr (b ll hh : Byte) :
    operandOf (formInstr (form b) ll hh) = operandOfCount ll hh (operandCount (t256 b).mode) := by
  rw [operandOf, encode_formInstr]
  cases (t256 b).mode <;> rfl

/-- The record that a step from `s` latches, in terms of the row of the opcode byte at the cursor. -/
def decodedRecord (s : State) : Record :=
  let b := s.mem.opcodeByte s.cursor
  buildRecord s.targetAddress b (t256 b).mnemonic (t256 b).mode (t256 b).cycles
    (operandOfCount (lowByte (s.mem.readByte (s.cursor + 1))) (lowByte (s.mem.readByte (s.cursor + 2)))
      (operandCount (t256 b).mode))

/-- The operand byte count of the row that a step from `s` decodes. -/
def decodedCount (s : State) : Nat := operandCount (t256 (s.mem.opcodeByte s.cursor)).mode

theorem step_eq_next {s : State} (h : s.cursor < s.mem.length) :
    step s = .next (s.complete (decodedRecord s) (s.cursor + 1 + decodedCount s)) := by
  rw [step_of_lt h, exec_of_lt _ h, afterDecode, opcodeByteOf_form, operandOf_formInstr]
  rfl

/-- The one way a step answers a next state. -/
theorem step_next {s t : State} (h : step s = .next t) :
    s.cursor < s.mem.length ∧ t = s.complete (decodedRecord s) (s.cursor + 1 + decodedCount s) := by
  by_cases hc : s.cursor < s.mem.length
  · rw [step_eq_next hc] at h
    exact ⟨hc, (Host.Outcome.next.inj h).symm⟩
  · rw [step_of_ge (by omega)] at h
    cases h

end Sys2Proof.Machine
end

