-- ==== Sys2Proof/Laws/Formatter.lean ====
section
/-!
SUPPORT. The formatter's domain, that a decoded record lies in it, and what each output is on it.
-/

namespace Sys2Proof.Machine

@[simp] theorem hex2_length (v : Byte) : (hex2 v).length = 2 := rfl

@[simp] theorem hex4_length (v : Word) : (hex4 v).length = 4 := rfl

theorem hexOperandField_length (mode : AddressingMode) (v : Word) : (hexOperandField mode v).length = 6 := by
  rw [hexOperandField]
  split <;> rfl

theorem operandOk_operandOfCount {r : Record} {ll hh : Byte}
    (h : r.operand = operandOfCount ll hh (operandCount r.addressingMode)) : r.operandOk = true := by
  have hb : ∀ v : Byte, (zext16 v).toNat < 256 := fun v => by rw [zext16_toNat]; exact v.isLt
  simp only [Record.operandOk, Record.operandPresenceOk, Record.operandWidthOk, h]
  cases r.addressingMode <;>
    simp [operandCount, operandOfCount, AddressingMode.hasNoOperand, AddressingMode.hasOneByteOperand, hb]

/-- An operand that meets R108(a) and R108(b) is the operand of two bytes. -/
theorem operandOfCount_of_operandOk {r : Record} (h : r.operandOk = true) :
    r.operand = operandOfCount (lowByte (operandValue r)) (highByte (operandValue r)) (operandCount r.addressingMode) := by
  have hw : ∀ v : Word, assembleWord (lowByte v) (highByte v) = v := fun v => by
    apply BitVec.eq_of_toNat_eq
    rw [assembleWord_toNat, lowByte_toNat, highByte_toNat]
    omega
  have hz : ∀ v : Word, v.toNat < 256 → zext16 (lowByte v) = v := fun v hv => by
    apply BitVec.eq_of_toNat_eq
    rw [zext16_toNat, lowByte_toNat]
    omega
  obtain ⟨_, mode, _, _, operand, _, _, _, _, _⟩ := r
  cases mode <;> cases operand <;>
    simp_all [Record.operandOk, Record.operandPresenceOk, Record.operandWidthOk, operandValue, operandCount,
      operandOfCount, AddressingMode.hasNoOperand, AddressingMode.hasOneByteOperand]

/-- What `decodable` says: the operand is well formed, and the record is built from its own opcode byte, address and
operand. -/
theorem decodable_iff {r : Record} : decodable r = true ↔ r.operandOk = true ∧
    r = buildRecord r.address r.opcode.rawByte (t256 r.opcode.rawByte).mnemonic (t256 r.opcode.rawByte).mode
      (t256 r.opcode.rawByte).cycles r.operand := by
  rw [decodable, Bool.and_eq_true, decide_eq_true_iff]

/-- A decoded record is in the formatter's domain. -/
theorem decodedRecord_decodable (s : State) : decodable (decodedRecord s) = true :=
  decodable_iff.2 ⟨operandOk_operandOfCount rfl, rfl⟩

theorem formatOn_of_decodable {α : Type} (render : Record → α) {r : Record} (h : decodable r = true) :
    formatOn render r = .ok (render r) := if_pos h

theorem formatOn_of_not {α : Type} (render : Record → α) {r : Record} (h : decodable r = false) :
    formatOn render r = .error .formatOutsideDomain := if_neg (by simp [h])

/-- The one way an output is a text. -/
theorem formatOn_ok {α : Type} {render : Record → α} {r : Record} {x : α} (h : formatOn render r = .ok x) :
    decodable r = true ∧ x = render r := by
  cases hf : decodable r with
  | true => exact ⟨rfl, (Except.ok.inj ((formatOn_of_decodable render hf).symm.trans h)).symm⟩
  | false => exact nomatch (formatOn_of_not render hf).symm.trans h

end Sys2Proof.Machine
end

