-- ==== Sys2Proof/Laws/PerInstr.lean ====
section
/-!
SUPPORT. One law about each instruction as syntax: it encodes to its opcode byte and as many operand bytes as table
T256's mode of that byte has (30_encoding.md R60, R61).
-/

namespace Sys2Proof.Laws.Encoding

open Sys2Proof.Machine

/-- The encoding is the opcode byte of a row and as many operand bytes as the row's mode has. -/
def Statement (i : Instr) : Prop := ∃ b rest, encode i = b :: rest ∧ rest.length = operandCount (t256 b).mode

theorem brkImp00 : Statement (.brkImp00) := ⟨_, _, rfl, rfl⟩
theorem oraIzx01 (ll : Byte) : Statement (.oraIzx01 ll) := ⟨_, _, rfl, rfl⟩
theorem hltImp02 : Statement (.hltImp02) := ⟨_, _, rfl, rfl⟩
theorem sloIzx03 (ll : Byte) : Statement (.sloIzx03 ll) := ⟨_, _, rfl, rfl⟩
theorem nopZp04 (ll : Byte) : Statement (.nopZp04 ll) := ⟨_, _, rfl, rfl⟩
theorem oraZp05 (ll : Byte) : Statement (.oraZp05 ll) := ⟨_, _, rfl, rfl⟩
theorem aslZp06 (ll : Byte) : Statement (.aslZp06 ll) := ⟨_, _, rfl, rfl⟩
theorem sloZp07 (ll : Byte) : Statement (.sloZp07 ll) := ⟨_, _, rfl, rfl⟩
theorem phpImp08 : Statement (.phpImp08) := ⟨_, _, rfl, rfl⟩
theorem oraImm09 (ll : Byte) : Statement (.oraImm09 ll) := ⟨_, _, rfl, rfl⟩
theorem aslAcc0A : Statement (.aslAcc0A) := ⟨_, _, rfl, rfl⟩
theorem ancImm0B (ll : Byte) : Statement (.ancImm0B ll) := ⟨_, _, rfl, rfl⟩
theorem nopAbs0C (ll hh : Byte) : Statement (.nopAbs0C ll hh) := ⟨_, _, rfl, rfl⟩
theorem oraAbs0D (ll hh : Byte) : Statement (.oraAbs0D ll hh) := ⟨_, _, rfl, rfl⟩
theorem aslAbs0E (ll hh : Byte) : Statement (.aslAbs0E ll hh) := ⟨_, _, rfl, rfl⟩
theorem sloAbs0F (ll hh : Byte) : Statement (.sloAbs0F ll hh) := ⟨_, _, rfl, rfl⟩
theorem bplRel10 (ll : Byte) : Statement (.bplRel10 ll) := ⟨_, _, rfl, rfl⟩
theorem oraIzy11 (ll : Byte) : Statement (.oraIzy11 ll) := ⟨_, _, rfl, rfl⟩
theorem hltImp12 : Statement (.hltImp12) := ⟨_, _, rfl, rfl⟩
theorem sloIzy13 (ll : Byte) : Statement (.sloIzy13 ll) := ⟨_, _, rfl, rfl⟩
theorem nopZpx14 (ll : Byte) : Statement (.nopZpx14 ll) := ⟨_, _, rfl, rfl⟩
theorem oraZpx15 (ll : Byte) : Statement (.oraZpx15 ll) := ⟨_, _, rfl, rfl⟩
theorem aslZpx16 (ll : Byte) : Statement (.aslZpx16 ll) := ⟨_, _, rfl, rfl⟩
theorem sloZpx17 (ll : Byte) : Statement (.sloZpx17 ll) := ⟨_, _, rfl, rfl⟩
theorem clcImp18 : Statement (.clcImp18) := ⟨_, _, rfl, rfl⟩
theorem oraAby19 (ll hh : Byte) : Statement (.oraAby19 ll hh) := ⟨_, _, rfl, rfl⟩
theorem nopImp1A : Statement (.nopImp1A) := ⟨_, _, rfl, rfl⟩
theorem sloAby1B (ll hh : Byte) : Statement (.sloAby1B ll hh) := ⟨_, _, rfl, rfl⟩
theorem nopAbx1C (ll hh : Byte) : Statement (.nopAbx1C ll hh) := ⟨_, _, rfl, rfl⟩
theorem oraAbx1D (ll hh : Byte) : Statement (.oraAbx1D ll hh) := ⟨_, _, rfl, rfl⟩
theorem aslAbx1E (ll hh : Byte) : Statement (.aslAbx1E ll hh) := ⟨_, _, rfl, rfl⟩
theorem sloAbx1F (ll hh : Byte) : Statement (.sloAbx1F ll hh) := ⟨_, _, rfl, rfl⟩
theorem jsrAbs20 (ll hh : Byte) : Statement (.jsrAbs20 ll hh) := ⟨_, _, rfl, rfl⟩
theorem andIzx21 (ll : Byte) : Statement (.andIzx21 ll) := ⟨_, _, rfl, rfl⟩
theorem hltImp22 : Statement (.hltImp22) := ⟨_, _, rfl, rfl⟩
theorem rlaIzx23 (ll : Byte) : Statement (.rlaIzx23 ll) := ⟨_, _, rfl, rfl⟩
theorem bitZp24 (ll : Byte) : Statement (.bitZp24 ll) := ⟨_, _, rfl, rfl⟩
theorem andZp25 (ll : Byte) : Statement (.andZp25 ll) := ⟨_, _, rfl, rfl⟩
theorem rolZp26 (ll : Byte) : Statement (.rolZp26 ll) := ⟨_, _, rfl, rfl⟩
theorem rlaZp27 (ll : Byte) : Statement (.rlaZp27 ll) := ⟨_, _, rfl, rfl⟩
theorem plpImp28 : Statement (.plpImp28) := ⟨_, _, rfl, rfl⟩
theorem andImm29 (ll : Byte) : Statement (.andImm29 ll) := ⟨_, _, rfl, rfl⟩
theorem rolAcc2A : Statement (.rolAcc2A) := ⟨_, _, rfl, rfl⟩
theorem ancImm2B (ll : Byte) : Statement (.ancImm2B ll) := ⟨_, _, rfl, rfl⟩
theorem bitAbs2C (ll hh : Byte) : Statement (.bitAbs2C ll hh) := ⟨_, _, rfl, rfl⟩
theorem andAbs2D (ll hh : Byte) : Statement (.andAbs2D ll hh) := ⟨_, _, rfl, rfl⟩
theorem rolAbs2E (ll hh : Byte) : Statement (.rolAbs2E ll hh) := ⟨_, _, rfl, rfl⟩
theorem rlaAbs2F (ll hh : Byte) : Statement (.rlaAbs2F ll hh) := ⟨_, _, rfl, rfl⟩
theorem bmiRel30 (ll : Byte) : Statement (.bmiRel30 ll) := ⟨_, _, rfl, rfl⟩
theorem andIzy31 (ll : Byte) : Statement (.andIzy31 ll) := ⟨_, _, rfl, rfl⟩
theorem hltImp32 : Statement (.hltImp32) := ⟨_, _, rfl, rfl⟩
theorem rlaIzy33 (ll : Byte) : Statement (.rlaIzy33 ll) := ⟨_, _, rfl, rfl⟩
theorem nopZpx34 (ll : Byte) : Statement (.nopZpx34 ll) := ⟨_, _, rfl, rfl⟩
theorem andZpx35 (ll : Byte) : Statement (.andZpx35 ll) := ⟨_, _, rfl, rfl⟩
theorem rolZpx36 (ll : Byte) : Statement (.rolZpx36 ll) := ⟨_, _, rfl, rfl⟩
theorem rlaZpx37 (ll : Byte) : Statement (.rlaZpx37 ll) := ⟨_, _, rfl, rfl⟩
theorem secImp38 : Statement (.secImp38) := ⟨_, _, rfl, rfl⟩
theorem andAby39 (ll hh : Byte) : Statement (.andAby39 ll hh) := ⟨_, _, rfl, rfl⟩
theorem nopImp3A : Statement (.nopImp3A) := ⟨_, _, rfl, rfl⟩
theorem rlaAby3B (ll hh : Byte) : Statement (.rlaAby3B ll hh) := ⟨_, _, rfl, rfl⟩
theorem nopAbx3C (ll hh : Byte) : Statement (.nopAbx3C ll hh) := ⟨_, _, rfl, rfl⟩
theorem andAbx3D (ll hh : Byte) : Statement (.andAbx3D ll hh) := ⟨_, _, rfl, rfl⟩
theorem rolAbx3E (ll hh : Byte) : Statement (.rolAbx3E ll hh) := ⟨_, _, rfl, rfl⟩
theorem rlaAbx3F (ll hh : Byte) : Statement (.rlaAbx3F ll hh) := ⟨_, _, rfl, rfl⟩
theorem rtiImp40 : Statement (.rtiImp40) := ⟨_, _, rfl, rfl⟩
theorem eorIzx41 (ll : Byte) : Statement (.eorIzx41 ll) := ⟨_, _, rfl, rfl⟩
theorem hltImp42 : Statement (.hltImp42) := ⟨_, _, rfl, rfl⟩
theorem sreIzx43 (ll : Byte) : Statement (.sreIzx43 ll) := ⟨_, _, rfl, rfl⟩
theorem nopZp44 (ll : Byte) : Statement (.nopZp44 ll) := ⟨_, _, rfl, rfl⟩
theorem eorZp45 (ll : Byte) : Statement (.eorZp45 ll) := ⟨_, _, rfl, rfl⟩
theorem lsrZp46 (ll : Byte) : Statement (.lsrZp46 ll) := ⟨_, _, rfl, rfl⟩
theorem sreZp47 (ll : Byte) : Statement (.sreZp47 ll) := ⟨_, _, rfl, rfl⟩
theorem phaImp48 : Statement (.phaImp48) := ⟨_, _, rfl, rfl⟩
theorem eorImm49 (ll : Byte) : Statement (.eorImm49 ll) := ⟨_, _, rfl, rfl⟩
theorem lsrAcc4A : Statement (.lsrAcc4A) := ⟨_, _, rfl, rfl⟩
theorem alrImm4B (ll : Byte) : Statement (.alrImm4B ll) := ⟨_, _, rfl, rfl⟩
theorem jmpAbs4C (ll hh : Byte) : Statement (.jmpAbs4C ll hh) := ⟨_, _, rfl, rfl⟩
theorem eorAbs4D (ll hh : Byte) : Statement (.eorAbs4D ll hh) := ⟨_, _, rfl, rfl⟩
theorem lsrAbs4E (ll hh : Byte) : Statement (.lsrAbs4E ll hh) := ⟨_, _, rfl, rfl⟩
theorem sreAbs4F (ll hh : Byte) : Statement (.sreAbs4F ll hh) := ⟨_, _, rfl, rfl⟩
theorem bvcRel50 (ll : Byte) : Statement (.bvcRel50 ll) := ⟨_, _, rfl, rfl⟩
theorem eorIzy51 (ll : Byte) : Statement (.eorIzy51 ll) := ⟨_, _, rfl, rfl⟩
theorem hltImp52 : Statement (.hltImp52) := ⟨_, _, rfl, rfl⟩
theorem sreIzy53 (ll : Byte) : Statement (.sreIzy53 ll) := ⟨_, _, rfl, rfl⟩
theorem nopZpx54 (ll : Byte) : Statement (.nopZpx54 ll) := ⟨_, _, rfl, rfl⟩
theorem eorZpx55 (ll : Byte) : Statement (.eorZpx55 ll) := ⟨_, _, rfl, rfl⟩
theorem lsrZpx56 (ll : Byte) : Statement (.lsrZpx56 ll) := ⟨_, _, rfl, rfl⟩
theorem sreZpx57 (ll : Byte) : Statement (.sreZpx57 ll) := ⟨_, _, rfl, rfl⟩
theorem cliImp58 : Statement (.cliImp58) := ⟨_, _, rfl, rfl⟩
theorem eorAby59 (ll hh : Byte) : Statement (.eorAby59 ll hh) := ⟨_, _, rfl, rfl⟩
theorem nopImp5A : Statement (.nopImp5A) := ⟨_, _, rfl, rfl⟩
theorem sreAby5B (ll hh : Byte) : Statement (.sreAby5B ll hh) := ⟨_, _, rfl, rfl⟩
theorem nopAbx5C (ll hh : Byte) : Statement (.nopAbx5C ll hh) := ⟨_, _, rfl, rfl⟩
theorem eorAbx5D (ll hh : Byte) : Statement (.eorAbx5D ll hh) := ⟨_, _, rfl, rfl⟩
theorem lsrAbx5E (ll hh : Byte) : Statement (.lsrAbx5E ll hh) := ⟨_, _, rfl, rfl⟩
theorem sreAbx5F (ll hh : Byte) : Statement (.sreAbx5F ll hh) := ⟨_, _, rfl, rfl⟩
theorem rtsImp60 : Statement (.rtsImp60) := ⟨_, _, rfl, rfl⟩
theorem adcIzx61 (ll : Byte) : Statement (.adcIzx61 ll) := ⟨_, _, rfl, rfl⟩
theorem hltImp62 : Statement (.hltImp62) := ⟨_, _, rfl, rfl⟩
theorem rraIzx63 (ll : Byte) : Statement (.rraIzx63 ll) := ⟨_, _, rfl, rfl⟩
theorem nopZp64 (ll : Byte) : Statement (.nopZp64 ll) := ⟨_, _, rfl, rfl⟩
theorem adcZp65 (ll : Byte) : Statement (.adcZp65 ll) := ⟨_, _, rfl, rfl⟩
theorem rorZp66 (ll : Byte) : Statement (.rorZp66 ll) := ⟨_, _, rfl, rfl⟩
theorem rraZp67 (ll : Byte) : Statement (.rraZp67 ll) := ⟨_, _, rfl, rfl⟩
theorem plaImp68 : Statement (.plaImp68) := ⟨_, _, rfl, rfl⟩
theorem adcImm69 (ll : Byte) : Statement (.adcImm69 ll) := ⟨_, _, rfl, rfl⟩
theorem rorAcc6A : Statement (.rorAcc6A) := ⟨_, _, rfl, rfl⟩
theorem arrImm6B (ll : Byte) : Statement (.arrImm6B ll) := ⟨_, _, rfl, rfl⟩
theorem jmpInd6C (ll hh : Byte) : Statement (.jmpInd6C ll hh) := ⟨_, _, rfl, rfl⟩
theorem adcAbs6D (ll hh : Byte) : Statement (.adcAbs6D ll hh) := ⟨_, _, rfl, rfl⟩
theorem rorAbs6E (ll hh : Byte) : Statement (.rorAbs6E ll hh) := ⟨_, _, rfl, rfl⟩
theorem rraAbs6F (ll hh : Byte) : Statement (.rraAbs6F ll hh) := ⟨_, _, rfl, rfl⟩
theorem bvsRel70 (ll : Byte) : Statement (.bvsRel70 ll) := ⟨_, _, rfl, rfl⟩
theorem adcIzy71 (ll : Byte) : Statement (.adcIzy71 ll) := ⟨_, _, rfl, rfl⟩
theorem hltImp72 : Statement (.hltImp72) := ⟨_, _, rfl, rfl⟩
theorem rraIzy73 (ll : Byte) : Statement (.rraIzy73 ll) := ⟨_, _, rfl, rfl⟩
theorem nopZpx74 (ll : Byte) : Statement (.nopZpx74 ll) := ⟨_, _, rfl, rfl⟩
theorem adcZpx75 (ll : Byte) : Statement (.adcZpx75 ll) := ⟨_, _, rfl, rfl⟩
theorem rorZpx76 (ll : Byte) : Statement (.rorZpx76 ll) := ⟨_, _, rfl, rfl⟩
theorem rraZpx77 (ll : Byte) : Statement (.rraZpx77 ll) := ⟨_, _, rfl, rfl⟩
theorem seiImp78 : Statement (.seiImp78) := ⟨_, _, rfl, rfl⟩
theorem adcAby79 (ll hh : Byte) : Statement (.adcAby79 ll hh) := ⟨_, _, rfl, rfl⟩
theorem nopImp7A : Statement (.nopImp7A) := ⟨_, _, rfl, rfl⟩
theorem rraAby7B (ll hh : Byte) : Statement (.rraAby7B ll hh) := ⟨_, _, rfl, rfl⟩
theorem nopAbx7C (ll hh : Byte) : Statement (.nopAbx7C ll hh) := ⟨_, _, rfl, rfl⟩
theorem adcAbx7D (ll hh : Byte) : Statement (.adcAbx7D ll hh) := ⟨_, _, rfl, rfl⟩
theorem rorAbx7E (ll hh : Byte) : Statement (.rorAbx7E ll hh) := ⟨_, _, rfl, rfl⟩
theorem rraAbx7F (ll hh : Byte) : Statement (.rraAbx7F ll hh) := ⟨_, _, rfl, rfl⟩
theorem nopImm80 (ll : Byte) : Statement (.nopImm80 ll) := ⟨_, _, rfl, rfl⟩
theorem staIzx81 (ll : Byte) : Statement (.staIzx81 ll) := ⟨_, _, rfl, rfl⟩
theorem nopImm82 (ll : Byte) : Statement (.nopImm82 ll) := ⟨_, _, rfl, rfl⟩
theorem saxIzx83 (ll : Byte) : Statement (.saxIzx83 ll) := ⟨_, _, rfl, rfl⟩
theorem styZp84 (ll : Byte) : Statement (.styZp84 ll) := ⟨_, _, rfl, rfl⟩
theorem staZp85 (ll : Byte) : Statement (.staZp85 ll) := ⟨_, _, rfl, rfl⟩
theorem stxZp86 (ll : Byte) : Statement (.stxZp86 ll) := ⟨_, _, rfl, rfl⟩
theorem saxZp87 (ll : Byte) : Statement (.saxZp87 ll) := ⟨_, _, rfl, rfl⟩
theorem deyImp88 : Statement (.deyImp88) := ⟨_, _, rfl, rfl⟩
theorem nopImm89 (ll : Byte) : Statement (.nopImm89 ll) := ⟨_, _, rfl, rfl⟩
theorem txaImp8A : Statement (.txaImp8A) := ⟨_, _, rfl, rfl⟩
theorem xaaImm8B (ll : Byte) : Statement (.xaaImm8B ll) := ⟨_, _, rfl, rfl⟩
theorem styAbs8C (ll hh : Byte) : Statement (.styAbs8C ll hh) := ⟨_, _, rfl, rfl⟩
theorem staAbs8D (ll hh : Byte) : Statement (.staAbs8D ll hh) := ⟨_, _, rfl, rfl⟩
theorem stxAbs8E (ll hh : Byte) : Statement (.stxAbs8E ll hh) := ⟨_, _, rfl, rfl⟩
theorem saxAbs8F (ll hh : Byte) : Statement (.saxAbs8F ll hh) := ⟨_, _, rfl, rfl⟩
theorem bccRel90 (ll : Byte) : Statement (.bccRel90 ll) := ⟨_, _, rfl, rfl⟩
theorem staIzy91 (ll : Byte) : Statement (.staIzy91 ll) := ⟨_, _, rfl, rfl⟩
theorem hltImp92 : Statement (.hltImp92) := ⟨_, _, rfl, rfl⟩
theorem ahxIzy93 (ll : Byte) : Statement (.ahxIzy93 ll) := ⟨_, _, rfl, rfl⟩
theorem styZpx94 (ll : Byte) : Statement (.styZpx94 ll) := ⟨_, _, rfl, rfl⟩
theorem staZpx95 (ll : Byte) : Statement (.staZpx95 ll) := ⟨_, _, rfl, rfl⟩
theorem stxZpy96 (ll : Byte) : Statement (.stxZpy96 ll) := ⟨_, _, rfl, rfl⟩
theorem saxZpy97 (ll : Byte) : Statement (.saxZpy97 ll) := ⟨_, _, rfl, rfl⟩
theorem tyaImp98 : Statement (.tyaImp98) := ⟨_, _, rfl, rfl⟩
theorem staAby99 (ll hh : Byte) : Statement (.staAby99 ll hh) := ⟨_, _, rfl, rfl⟩
theorem txsImp9A : Statement (.txsImp9A) := ⟨_, _, rfl, rfl⟩
theorem tasAby9B (ll hh : Byte) : Statement (.tasAby9B ll hh) := ⟨_, _, rfl, rfl⟩
theorem shyAbx9C (ll hh : Byte) : Statement (.shyAbx9C ll hh) := ⟨_, _, rfl, rfl⟩
theorem staAbx9D (ll hh : Byte) : Statement (.staAbx9D ll hh) := ⟨_, _, rfl, rfl⟩
theorem shxAby9E (ll hh : Byte) : Statement (.shxAby9E ll hh) := ⟨_, _, rfl, rfl⟩
theorem ahxAby9F (ll hh : Byte) : Statement (.ahxAby9F ll hh) := ⟨_, _, rfl, rfl⟩
theorem ldyImmA0 (ll : Byte) : Statement (.ldyImmA0 ll) := ⟨_, _, rfl, rfl⟩
theorem ldaIzxA1 (ll : Byte) : Statement (.ldaIzxA1 ll) := ⟨_, _, rfl, rfl⟩
theorem ldxImmA2 (ll : Byte) : Statement (.ldxImmA2 ll) := ⟨_, _, rfl, rfl⟩
theorem laxIzxA3 (ll : Byte) : Statement (.laxIzxA3 ll) := ⟨_, _, rfl, rfl⟩
theorem ldyZpA4 (ll : Byte) : Statement (.ldyZpA4 ll) := ⟨_, _, rfl, rfl⟩
theorem ldaZpA5 (ll : Byte) : Statement (.ldaZpA5 ll) := ⟨_, _, rfl, rfl⟩
theorem ldxZpA6 (ll : Byte) : Statement (.ldxZpA6 ll) := ⟨_, _, rfl, rfl⟩
theorem laxZpA7 (ll : Byte) : Statement (.laxZpA7 ll) := ⟨_, _, rfl, rfl⟩
theorem tayImpA8 : Statement (.tayImpA8) := ⟨_, _, rfl, rfl⟩
theorem ldaImmA9 (ll : Byte) : Statement (.ldaImmA9 ll) := ⟨_, _, rfl, rfl⟩
theorem taxImpAA : Statement (.taxImpAA) := ⟨_, _, rfl, rfl⟩
theorem laxImmAB (ll : Byte) : Statement (.laxImmAB ll) := ⟨_, _, rfl, rfl⟩
theorem ldyAbsAC (ll hh : Byte) : Statement (.ldyAbsAC ll hh) := ⟨_, _, rfl, rfl⟩
theorem ldaAbsAD (ll hh : Byte) : Statement (.ldaAbsAD ll hh) := ⟨_, _, rfl, rfl⟩
theorem ldxAbsAE (ll hh : Byte) : Statement (.ldxAbsAE ll hh) := ⟨_, _, rfl, rfl⟩
theorem laxAbsAF (ll hh : Byte) : Statement (.laxAbsAF ll hh) := ⟨_, _, rfl, rfl⟩
theorem bcsRelB0 (ll : Byte) : Statement (.bcsRelB0 ll) := ⟨_, _, rfl, rfl⟩
theorem ldaIzyB1 (ll : Byte) : Statement (.ldaIzyB1 ll) := ⟨_, _, rfl, rfl⟩
theorem hltImpB2 : Statement (.hltImpB2) := ⟨_, _, rfl, rfl⟩
theorem laxIzyB3 (ll : Byte) : Statement (.laxIzyB3 ll) := ⟨_, _, rfl, rfl⟩
theorem ldyZpxB4 (ll : Byte) : Statement (.ldyZpxB4 ll) := ⟨_, _, rfl, rfl⟩
theorem ldaZpxB5 (ll : Byte) : Statement (.ldaZpxB5 ll) := ⟨_, _, rfl, rfl⟩
theorem ldxZpyB6 (ll : Byte) : Statement (.ldxZpyB6 ll) := ⟨_, _, rfl, rfl⟩
theorem laxZpyB7 (ll : Byte) : Statement (.laxZpyB7 ll) := ⟨_, _, rfl, rfl⟩
theorem clvImpB8 : Statement (.clvImpB8) := ⟨_, _, rfl, rfl⟩
theorem ldaAbyB9 (ll hh : Byte) : Statement (.ldaAbyB9 ll hh) := ⟨_, _, rfl, rfl⟩
theorem tsxImpBA : Statement (.tsxImpBA) := ⟨_, _, rfl, rfl⟩
theorem lasAbyBB (ll hh : Byte) : Statement (.lasAbyBB ll hh) := ⟨_, _, rfl, rfl⟩
theorem ldyAbxBC (ll hh : Byte) : Statement (.ldyAbxBC ll hh) := ⟨_, _, rfl, rfl⟩
theorem ldaAbxBD (ll hh : Byte) : Statement (.ldaAbxBD ll hh) := ⟨_, _, rfl, rfl⟩
theorem ldxAbyBE (ll hh : Byte) : Statement (.ldxAbyBE ll hh) := ⟨_, _, rfl, rfl⟩
theorem laxAbyBF (ll hh : Byte) : Statement (.laxAbyBF ll hh) := ⟨_, _, rfl, rfl⟩
theorem cpyImmC0 (ll : Byte) : Statement (.cpyImmC0 ll) := ⟨_, _, rfl, rfl⟩
theorem cmpIzxC1 (ll : Byte) : Statement (.cmpIzxC1 ll) := ⟨_, _, rfl, rfl⟩
theorem nopImmC2 (ll : Byte) : Statement (.nopImmC2 ll) := ⟨_, _, rfl, rfl⟩
theorem dcpIzxC3 (ll : Byte) : Statement (.dcpIzxC3 ll) := ⟨_, _, rfl, rfl⟩
theorem cpyZpC4 (ll : Byte) : Statement (.cpyZpC4 ll) := ⟨_, _, rfl, rfl⟩
theorem cmpZpC5 (ll : Byte) : Statement (.cmpZpC5 ll) := ⟨_, _, rfl, rfl⟩
theorem decZpC6 (ll : Byte) : Statement (.decZpC6 ll) := ⟨_, _, rfl, rfl⟩
theorem dcpZpC7 (ll : Byte) : Statement (.dcpZpC7 ll) := ⟨_, _, rfl, rfl⟩
theorem inyImpC8 : Statement (.inyImpC8) := ⟨_, _, rfl, rfl⟩
theorem cmpImmC9 (ll : Byte) : Statement (.cmpImmC9 ll) := ⟨_, _, rfl, rfl⟩
theorem dexImpCA : Statement (.dexImpCA) := ⟨_, _, rfl, rfl⟩
theorem axsImmCB (ll : Byte) : Statement (.axsImmCB ll) := ⟨_, _, rfl, rfl⟩
theorem cpyAbsCC (ll hh : Byte) : Statement (.cpyAbsCC ll hh) := ⟨_, _, rfl, rfl⟩
theorem cmpAbsCD (ll hh : Byte) : Statement (.cmpAbsCD ll hh) := ⟨_, _, rfl, rfl⟩
theorem decAbsCE (ll hh : Byte) : Statement (.decAbsCE ll hh) := ⟨_, _, rfl, rfl⟩
theorem dcpAbsCF (ll hh : Byte) : Statement (.dcpAbsCF ll hh) := ⟨_, _, rfl, rfl⟩
theorem bneRelD0 (ll : Byte) : Statement (.bneRelD0 ll) := ⟨_, _, rfl, rfl⟩
theorem cmpIzyD1 (ll : Byte) : Statement (.cmpIzyD1 ll) := ⟨_, _, rfl, rfl⟩
theorem hltImpD2 : Statement (.hltImpD2) := ⟨_, _, rfl, rfl⟩
theorem dcpIzyD3 (ll : Byte) : Statement (.dcpIzyD3 ll) := ⟨_, _, rfl, rfl⟩
theorem nopZpxD4 (ll : Byte) : Statement (.nopZpxD4 ll) := ⟨_, _, rfl, rfl⟩
theorem cmpZpxD5 (ll : Byte) : Statement (.cmpZpxD5 ll) := ⟨_, _, rfl, rfl⟩
theorem decZpxD6 (ll : Byte) : Statement (.decZpxD6 ll) := ⟨_, _, rfl, rfl⟩
theorem dcpZpxD7 (ll : Byte) : Statement (.dcpZpxD7 ll) := ⟨_, _, rfl, rfl⟩
theorem cldImpD8 : Statement (.cldImpD8) := ⟨_, _, rfl, rfl⟩
theorem cmpAbyD9 (ll hh : Byte) : Statement (.cmpAbyD9 ll hh) := ⟨_, _, rfl, rfl⟩
theorem nopImpDA : Statement (.nopImpDA) := ⟨_, _, rfl, rfl⟩
theorem dcpAbyDB (ll hh : Byte) : Statement (.dcpAbyDB ll hh) := ⟨_, _, rfl, rfl⟩
theorem nopAbxDC (ll hh : Byte) : Statement (.nopAbxDC ll hh) := ⟨_, _, rfl, rfl⟩
theorem cmpAbxDD (ll hh : Byte) : Statement (.cmpAbxDD ll hh) := ⟨_, _, rfl, rfl⟩
theorem decAbxDE (ll hh : Byte) : Statement (.decAbxDE ll hh) := ⟨_, _, rfl, rfl⟩
theorem dcpAbxDF (ll hh : Byte) : Statement (.dcpAbxDF ll hh) := ⟨_, _, rfl, rfl⟩
theorem cpxImmE0 (ll : Byte) : Statement (.cpxImmE0 ll) := ⟨_, _, rfl, rfl⟩
theorem sbcIzxE1 (ll : Byte) : Statement (.sbcIzxE1 ll) := ⟨_, _, rfl, rfl⟩
theorem nopImmE2 (ll : Byte) : Statement (.nopImmE2 ll) := ⟨_, _, rfl, rfl⟩
theorem iscIzxE3 (ll : Byte) : Statement (.iscIzxE3 ll) := ⟨_, _, rfl, rfl⟩
theorem cpxZpE4 (ll : Byte) : Statement (.cpxZpE4 ll) := ⟨_, _, rfl, rfl⟩
theorem sbcZpE5 (ll : Byte) : Statement (.sbcZpE5 ll) := ⟨_, _, rfl, rfl⟩
theorem incZpE6 (ll : Byte) : Statement (.incZpE6 ll) := ⟨_, _, rfl, rfl⟩
theorem iscZpE7 (ll : Byte) : Statement (.iscZpE7 ll) := ⟨_, _, rfl, rfl⟩
theorem inxImpE8 : Statement (.inxImpE8) := ⟨_, _, rfl, rfl⟩
theorem sbcImmE9 (ll : Byte) : Statement (.sbcImmE9 ll) := ⟨_, _, rfl, rfl⟩
theorem nopImpEA : Statement (.nopImpEA) := ⟨_, _, rfl, rfl⟩
theorem sbcImmEB (ll : Byte) : Statement (.sbcImmEB ll) := ⟨_, _, rfl, rfl⟩
theorem cpxAbsEC (ll hh : Byte) : Statement (.cpxAbsEC ll hh) := ⟨_, _, rfl, rfl⟩
theorem sbcAbsED (ll hh : Byte) : Statement (.sbcAbsED ll hh) := ⟨_, _, rfl, rfl⟩
theorem incAbsEE (ll hh : Byte) : Statement (.incAbsEE ll hh) := ⟨_, _, rfl, rfl⟩
theorem iscAbsEF (ll hh : Byte) : Statement (.iscAbsEF ll hh) := ⟨_, _, rfl, rfl⟩
theorem beqRelF0 (ll : Byte) : Statement (.beqRelF0 ll) := ⟨_, _, rfl, rfl⟩
theorem sbcIzyF1 (ll : Byte) : Statement (.sbcIzyF1 ll) := ⟨_, _, rfl, rfl⟩
theorem hltImpF2 : Statement (.hltImpF2) := ⟨_, _, rfl, rfl⟩
theorem iscIzyF3 (ll : Byte) : Statement (.iscIzyF3 ll) := ⟨_, _, rfl, rfl⟩
theorem nopZpxF4 (ll : Byte) : Statement (.nopZpxF4 ll) := ⟨_, _, rfl, rfl⟩
theorem sbcZpxF5 (ll : Byte) : Statement (.sbcZpxF5 ll) := ⟨_, _, rfl, rfl⟩
theorem incZpxF6 (ll : Byte) : Statement (.incZpxF6 ll) := ⟨_, _, rfl, rfl⟩
theorem iscZpxF7 (ll : Byte) : Statement (.iscZpxF7 ll) := ⟨_, _, rfl, rfl⟩
theorem sedImpF8 : Statement (.sedImpF8) := ⟨_, _, rfl, rfl⟩
theorem sbcAbyF9 (ll hh : Byte) : Statement (.sbcAbyF9 ll hh) := ⟨_, _, rfl, rfl⟩
theorem nopImpFA : Statement (.nopImpFA) := ⟨_, _, rfl, rfl⟩
theorem iscAbyFB (ll hh : Byte) : Statement (.iscAbyFB ll hh) := ⟨_, _, rfl, rfl⟩
theorem nopAbxFC (ll hh : Byte) : Statement (.nopAbxFC ll hh) := ⟨_, _, rfl, rfl⟩
theorem sbcAbxFD (ll hh : Byte) : Statement (.sbcAbxFD ll hh) := ⟨_, _, rfl, rfl⟩
theorem incAbxFE (ll hh : Byte) : Statement (.incAbxFE ll hh) := ⟨_, _, rfl, rfl⟩
theorem iscAbxFF (ll hh : Byte) : Statement (.iscAbxFF ll hh) := ⟨_, _, rfl, rfl⟩

/-- The law, of every instruction. -/
theorem all (i : Instr) : Statement i := by
  cases i <;> exact ⟨_, _, rfl, rfl⟩

end Sys2Proof.Laws.Encoding
end

