-- ==== Sys2Proof/Laws/Run.lean ====
section
/-!
SUPPORT. Runs of the machine: the first step of a run, and a step after a run.
-/

namespace Sys2Proof.Machine

theorem run_zero (s : State) : Host.Core.run core 0 s = .next s := rfl

/-- A run begins with one step. -/
theorem run_cons (M : Host.Core) (k : Nat) (s : M.State) : ∀ o, M.step s = o → M.run (k + 1) s =
    match o with
    | .next t => M.run k t
    | .fault f => .fault f
    | .refused r => .refused r := by
  rintro _ rfl
  cases h : M.step s <;> simp only [Host.Core.run, h]

theorem run_next {s t : State} (k : Nat) (h : step s = .next t) :
    Host.Core.run core (k + 1) s = Host.Core.run core k t := run_cons core k s _ h

theorem run_fault {s : State} {f : Fault} (k : Nat) (h : step s = .fault f) :
    Host.Core.run core (k + 1) s = .fault f := run_cons core k s _ h

theorem run_refused {s : State} {r : Refusal} (k : Nat) (h : step s = .refused r) :
    Host.Core.run core (k + 1) s = .refused r := run_cons core k s _ h

/-- One more step after a run that completes. -/
theorem run_step {k : Nat} {s t : State} (h : Host.Core.run core k s = .next t) :
    Host.Core.run core (k + 1) s = step t := by
  induction k generalizing s with
  | zero =>
    obtain rfl : s = t := Host.Outcome.next.inj h
    cases hs : step s with
    | next u => exact run_next 0 hs
    | fault f => exact run_fault 0 hs
    | refused r => exact run_refused 0 hs
  | succ k ih =>
    cases hs : step s with
    | next u => exact (run_next _ hs).trans (ih ((run_next k hs).symm.trans h))
    | fault f => exact nomatch (run_fault k hs).symm.trans h
    | refused r => exact nomatch (run_refused k hs).symm.trans h

end Sys2Proof.Machine
end

