-- ==== Sys2Proof/Tests/Slice0.lean ====
section
/-!
SUPPORT. The model's own tests, and a witness for each statement that has hypotheses. Expected values are copied from
spec/95_test_vectors.md (the vector's id stands in the test's comment or name) or written out from spec/30_encoding.md.
-/

namespace Sys2Proof.Tests

open Sys2Proof Sys2Proof.Machine Sys2Proof.Claims

/-- A state with this target address, cursor and buffer, before the first decode. -/
def start (address : Word) (cursor : Nat) (bytes : List Byte) : State :=
  State.reset.request address cursor (Memory.ofBytes bytes)

/-- The record and the cursor after one step, if it completes. -/
def decoded (s : State) : Option (Record × Nat) :=
  match step s with
  | .next t => t.record.map fun r => (r, t.cursor)
  | .fault _ => none
  | .refused _ => none

/-- The cursor that a step's fault records. -/
def faultedAt (s : State) : Option Nat :=
  match step s with
  | .next _ => none
  | .fault (.decodePrecondition c) => some c
  | .refused _ => none

def okText : Except Refusal Text → Option Text
  | .ok x => some x
  | .error _ => none

/-- The `AsHexStr`, `AsStr` and `Display` of the record after one step. -/
def texts (s : State) : Option (List (Option Text)) :=
  (decoded s).map fun p => [okText (asHexStr p.1), okText (asStr p.1), okText (display p.1)]

/-! ### The well-formedness checks: a good record, and an ill-formed one for each check -/

/-- The record of `[0xB9, 0x34, 0x12]`, written out. -/
def goodRecord : Record :=
  { opcode := { mnemonic := .LDA, rawByte := 0xB9 }, addressingMode := .absoluteIndexedY true, address := 0x1000
    cycles := 4, operand := some 0x1234, extraCycle := true, registersRead := some (regs [.Y])
    registersWritten := some (regs [.A]), affectedFlags := some (flags [.N, .Z]), illegal := false }

theorem test_wellFormed_good : goodRecord.wellFormed = true := by decide

theorem test_wellFormed_operand_missing : { goodRecord with operand := none }.wellFormed = false := by decide

theorem test_wellFormed_operand_spurious :
    { goodRecord with addressingMode := .implied, extraCycle := false }.wellFormed = false := by decide

theorem test_wellFormed_operand_wide :
    { goodRecord with addressingMode := .zeropage, extraCycle := false, operand := some 0x0100 }.wellFormed = false := by
  decide

theorem test_wellFormed_operand_widest :
    { goodRecord with addressingMode := .zeropage, extraCycle := false, operand := some 0x00FF }.wellFormed = true := by
  decide

theorem test_wellFormed_extraCycle : { goodRecord with extraCycle := false }.wellFormed = false := by decide

theorem test_wellFormed_cycles : { goodRecord with cycles := 9 }.wellFormed = false := by decide

theorem test_wellFormed_registersRead :
    { goodRecord with registersRead := some RegSet.empty }.wellFormed = false := by decide

theorem test_wellFormed_registersWritten :
    { goodRecord with registersWritten := some RegSet.empty }.wellFormed = false := by decide

theorem test_wellFormed_affectedFlags :
    { goodRecord with affectedFlags := some FlagSet.empty }.wellFormed = false := by decide

/-! ### The sweep of all 256 opcode bytes (95_test_vectors.md T51), sixteen at a time

Each row is the decode of `[b, 0x34, 0x12]` at target address 0x1000: the record, the cursor and the two renderings, which
by `test_sweep_outputs` are `AsHexStr` and `AsStr`. (The outputs themselves do not evaluate on the HLT bytes: whether a
record is one that Decode gives depends there on the free value.) After it, the instruction the bytes decode to. -/

theorem test_sweep_outputs (s : State) : asHexStr (decodedRecord s) = .ok (hexText (decodedRecord s)) ∧
    asStr (decodedRecord s) = .ok (asmText (decodedRecord s)) :=
  ⟨formatOn_of_decodable _ (decodedRecord_decodable s), formatOn_of_decodable _ (decodedRecord_decodable s)⟩

def sweepRow (mn : Mnemonic) (b : Byte) (mode : AddressingMode) (cycles : Byte) (operand : Option Word) (extra : Bool)
    (read written : Option RegSet) (affected : Option FlagSet) (illegal : Bool) (c : Nat) (hex asm : String) :
    Option (Record × Nat × Text × Text) :=
  some ({ opcode := { mnemonic := mn, rawByte := b }, addressingMode := mode, address := 0x1000, cycles := cycles
          operand := operand, extraCycle := extra, registersRead := read, registersWritten := written
          affectedFlags := affected, illegal := illegal }, c, hex.toList, asm.toList)

def page (b : Byte) : List Byte := [0, 1, 2, 3, 4, 5, 6, 7, 8, 9, 10, 11, 12, 13, 14, 15].map (b + ·)

def sweepPage (b : Byte) : List (Option (Record × Nat × Text × Text)) :=
  (page b).map fun v => (decoded (start 0x1000 0 [v, 0x34, 0x12])).map fun p =>
    (p.1, p.2, hexText p.1, asmText p.1)

/-- The instruction that bytes decode to. -/
def instrOf (bytes : List Byte) : Option Instr :=
  match decode bytes with
  | .ok (i, _) => some i
  | .error _ => none

def decodePage (b : Byte) : List (Option Instr) := (page b).map fun v => instrOf [v, 0x34, 0x12]

theorem test_sweep_0 : sweepPage 0x00 = [
    sweepRow .BRK 0x00 .implied 7 none false none none (some (flags [.B])) false 1 "00      " "BRK",
    sweepRow .ORA 0x01 .indexedIndirectX 6 (some 0x0034) false (some (regs [.A, .X])) (some (regs [.A])) (some (flags [.N, .Z])) false 2 "01 34   " "ORA ($34,X)",
    sweepRow .HLT 0x02 .implied hltCyclesByte none false none none none true 1 "02      " "HLT",
    sweepRow .SLO 0x03 .indexedIndirectX 8 (some 0x0034) false (some (regs [.A, .X])) (some (regs [.A])) (some (flags [.N, .Z, .C])) true 2 "03 34   " "SLO ($34,X)",
    sweepRow .NOP 0x04 .zeropage 3 (some 0x0034) false none none none true 2 "04 34   " "NOP $34",
    sweepRow .ORA 0x05 .zeropage 3 (some 0x0034) false (some (regs [.A])) (some (regs [.A])) (some (flags [.N, .Z])) false 2 "05 34   " "ORA $34",
    sweepRow .ASL 0x06 .zeropage 5 (some 0x0034) false none none (some (flags [.N, .Z, .C])) false 2 "06 34   " "ASL $34",
    sweepRow .SLO 0x07 .zeropage 5 (some 0x0034) false (some (regs [.A])) (some (regs [.A])) (some (flags [.N, .Z, .C])) true 2 "07 34   " "SLO $34",
    sweepRow .PHP 0x08 .implied 3 none false none none none false 1 "08      " "PHP",
    sweepRow .ORA 0x09 .immediate 2 (some 0x0034) false (some (regs [.A])) (some (regs [.A])) (some (flags [.N, .Z])) false 2 "09 34   " "ORA #$34",
    sweepRow .ASL 0x0A .accumulator 2 none false (some (regs [.A])) (some (regs [.A])) (some (flags [.N, .Z, .C])) false 1 "0A      " "ASL A",
    sweepRow .ANC 0x0B .immediate 2 (some 0x0034) false (some (regs [.A])) (some (regs [.A])) (some (flags [.N, .Z, .C])) true 2 "0B 34   " "ANC #$34",
    sweepRow .NOP 0x0C .absolute 4 (some 0x1234) false none none none true 3 "0C 34 12" "NOP $1234",
    sweepRow .ORA 0x0D .absolute 4 (some 0x1234) false (some (regs [.A])) (some (regs [.A])) (some (flags [.N, .Z])) false 3 "0D 34 12" "ORA $1234",
    sweepRow .ASL 0x0E .absolute 6 (some 0x1234) false none none (some (flags [.N, .Z, .C])) false 3 "0E 34 12" "ASL $1234",
    sweepRow .SLO 0x0F .absolute 6 (some 0x1234) false (some (regs [.A])) (some (regs [.A])) (some (flags [.N, .Z, .C])) true 3 "0F 34 12" "SLO $1234"] := by
  rfl

theorem test_decode_0 : decodePage 0x00 = [
    .brkImp00, .oraIzx01 0x34, .hltImp02, .sloIzx03 0x34, .nopZp04 0x34, .oraZp05 0x34, .aslZp06 0x34,
    .sloZp07 0x34, .phpImp08, .oraImm09 0x34, .aslAcc0A, .ancImm0B 0x34, .nopAbs0C 0x34 0x12, .oraAbs0D 0x34 0x12,
    .aslAbs0E 0x34 0x12, .sloAbs0F 0x34 0x12].map some := by
  rfl

theorem test_sweep_1 : sweepPage 0x10 = [
    sweepRow .BPL 0x10 .relative 2 (some 0x0034) true none none none false 2 "10 34   " "BPL $1036",
    sweepRow .ORA 0x11 (.indirectIndexedY true) 5 (some 0x0034) true (some (regs [.A, .Y])) (some (regs [.A])) (some (flags [.N, .Z])) false 2 "11 34   " "ORA ($34),Y",
    sweepRow .HLT 0x12 .implied hltCyclesByte none false none none none true 1 "12      " "HLT",
    sweepRow .SLO 0x13 (.indirectIndexedY false) 8 (some 0x0034) false (some (regs [.A, .Y])) (some (regs [.A])) (some (flags [.N, .Z, .C])) true 2 "13 34   " "SLO ($34),Y",
    sweepRow .NOP 0x14 .zeropageIndexedX 4 (some 0x0034) false (some (regs [.X])) none none true 2 "14 34   " "NOP $34,X",
    sweepRow .ORA 0x15 .zeropageIndexedX 4 (some 0x0034) false (some (regs [.A, .X])) (some (regs [.A])) (some (flags [.N, .Z])) false 2 "15 34   " "ORA $34,X",
    sweepRow .ASL 0x16 .zeropageIndexedX 6 (some 0x0034) false (some (regs [.X])) none (some (flags [.N, .Z, .C])) false 2 "16 34   " "ASL $34,X",
    sweepRow .SLO 0x17 .zeropageIndexedX 6 (some 0x0034) false (some (regs [.A, .X])) (some (regs [.A])) (some (flags [.N, .Z, .C])) true 2 "17 34   " "SLO $34,X",
    sweepRow .CLC 0x18 .implied 2 none false none none (some (flags [.C])) false 1 "18      " "CLC",
    sweepRow .ORA 0x19 (.absoluteIndexedY true) 4 (some 0x1234) true (some (regs [.A, .Y])) (some (regs [.A])) (some (flags [.N, .Z])) false 3 "19 34 12" "ORA $1234,Y",
    sweepRow .NOP 0x1A .implied 2 none false none none none true 1 "1A      " "NOP",
    sweepRow .SLO 0x1B (.absoluteIndexedY false) 7 (some 0x1234) false (some (regs [.A, .Y])) (some (regs [.A])) (some (flags [.N, .Z, .C])) true 3 "1B 34 12" "SLO $1234,Y",
    sweepRow .NOP 0x1C (.absoluteIndexedX true) 4 (some 0x1234) true (some (regs [.X])) none none true 3 "1C 34 12" "NOP $1234,X",
    sweepRow .ORA 0x1D (.absoluteIndexedX true) 4 (some 0x1234) true (some (regs [.A, .X])) (some (regs [.A])) (some (flags [.N, .Z])) false 3 "1D 34 12" "ORA $1234,X",
    sweepRow .ASL 0x1E (.absoluteIndexedX false) 7 (some 0x1234) false (some (regs [.X])) none (some (flags [.N, .Z, .C])) false 3 "1E 34 12" "ASL $1234,X",
    sweepRow .SLO 0x1F (.absoluteIndexedX false) 7 (some 0x1234) false (some (regs [.A, .X])) (some (regs [.A])) (some (flags [.N, .Z, .C])) true 3 "1F 34 12" "SLO $1234,X"] := by
  rfl

theorem test_decode_1 : decodePage 0x10 = [
    .bplRel10 0x34, .oraIzy11 0x34, .hltImp12, .sloIzy13 0x34, .nopZpx14 0x34, .oraZpx15 0x34, .aslZpx16 0x34,
    .sloZpx17 0x34, .clcImp18, .oraAby19 0x34 0x12, .nopImp1A, .sloAby1B 0x34 0x12, .nopAbx1C 0x34 0x12,
    .oraAbx1D 0x34 0x12, .aslAbx1E 0x34 0x12, .sloAbx1F 0x34 0x12].map some := by
  rfl

theorem test_sweep_2 : sweepPage 0x20 = [
    sweepRow .JSR 0x20 .absolute 6 (some 0x1234) false none none none false 3 "20 34 12" "JSR $1234",
    sweepRow .AND 0x21 .indexedIndirectX 6 (some 0x0034) false (some (regs [.A, .X])) (some (regs [.A])) (some (flags [.N, .Z])) false 2 "21 34   " "AND ($34,X)",
    sweepRow .HLT 0x22 .implied hltCyclesByte none false none none none true 1 "22      " "HLT",
    sweepRow .RLA 0x23 .indexedIndirectX 8 (some 0x0034) false (some (regs [.A, .X])) (some (regs [.A])) (some (flags [.N, .Z, .C])) true 2 "23 34   " "RLA ($34,X)",
    sweepRow .BIT 0x24 .zeropage 3 (some 0x0034) false (some (regs [.A])) none (some (flags [.N, .V, .Z])) false 2 "24 34   " "BIT $34",
    sweepRow .AND 0x25 .zeropage 3 (some 0x0034) false (some (regs [.A])) (some (regs [.A])) (some (flags [.N, .Z])) false 2 "25 34   " "AND $34",
    sweepRow .ROL 0x26 .zeropage 5 (some 0x0034) false none none (some (flags [.N, .Z, .C])) false 2 "26 34   " "ROL $34",
    sweepRow .RLA 0x27 .zeropage 5 (some 0x0034) false (some (regs [.A])) (some (regs [.A])) (some (flags [.N, .Z, .C])) true 2 "27 34   " "RLA $34",
    sweepRow .PLP 0x28 .implied 4 none false none none (some (flags [.N, .V, .B, .D, .I, .Z, .C])) false 1 "28      " "PLP",
    sweepRow .AND 0x29 .immediate 2 (some 0x0034) false (some (regs [.A])) (some (regs [.A])) (some (flags [.N, .Z])) false 2 "29 34   " "AND #$34",
    sweepRow .ROL 0x2A .accumulator 2 none false (some (regs [.A])) (some (regs [.A])) (some (flags [.N, .Z, .C])) false 1 "2A      " "ROL A",
    sweepRow .ANC 0x2B .immediate 2 (some 0x0034) false (some (regs [.A])) (some (regs [.A])) (some (flags [.N, .Z, .C])) true 2 "2B 34   " "ANC #$34",
    sweepRow .BIT 0x2C .absolute 4 (some 0x1234) false (some (regs [.A])) none (some (flags [.N, .V, .Z])) false 3 "2C 34 12" "BIT $1234",
    sweepRow .AND 0x2D .absolute 4 (some 0x1234) false (some (regs [.A])) (some (regs [.A])) (some (flags [.N, .Z])) false 3 "2D 34 12" "AND $1234",
    sweepRow .ROL 0x2E .absolute 6 (some 0x1234) false none none (some (flags [.N, .Z, .C])) false 3 "2E 34 12" "ROL $1234",
    sweepRow .RLA 0x2F .absolute 6 (some 0x1234) false (some (regs [.A])) (some (regs [.A])) (some (flags [.N, .Z, .C])) true 3 "2F 34 12" "RLA $1234"] := by
  rfl

theorem test_decode_2 : decodePage 0x20 = [
    .jsrAbs20 0x34 0x12, .andIzx21 0x34, .hltImp22, .rlaIzx23 0x34, .bitZp24 0x34, .andZp25 0x34, .rolZp26 0x34,
    .rlaZp27 0x34, .plpImp28, .andImm29 0x34, .rolAcc2A, .ancImm2B 0x34, .bitAbs2C 0x34 0x12, .andAbs2D 0x34 0x12,
    .rolAbs2E 0x34 0x12, .rlaAbs2F 0x34 0x12].map some := by
  rfl

theorem test_sweep_3 : sweepPage 0x30 = [
    sweepRow .BMI 0x30 .relative 2 (some 0x0034) true none none none false 2 "30 34   " "BMI $1036",
    sweepRow .AND 0x31 (.indirectIndexedY true) 5 (some 0x0034) true (some (regs [.A, .Y])) (some (regs [.A])) (some (flags [.N, .Z])) false 2 "31 34   " "AND ($34),Y",
    sweepRow .HLT 0x32 .implied hltCyclesByte none false none none none true 1 "32      " "HLT",
    sweepRow .RLA 0x33 (.indirectIndexedY false) 8 (some 0x0034) false (some (regs [.A, .Y])) (some (regs [.A])) (some (flags [.N, .Z, .C])) true 2 "33 34   " "RLA ($34),Y",
    sweepRow .NOP 0x34 .zeropageIndexedX 4 (some 0x0034) false (some (regs [.X])) none none true 2 "34 34   " "NOP $34,X",
    sweepRow .AND 0x35 .zeropageIndexedX 4 (some 0x0034) false (some (regs [.A, .X])) (some (regs [.A])) (some (flags [.N, .Z])) false 2 "35 34   " "AND $34,X",
    sweepRow .ROL 0x36 .zeropageIndexedX 6 (some 0x0034) false (some (regs [.X])) none (some (flags [.N, .Z, .C])) false 2 "36 34   " "ROL $34,X",
    sweepRow .RLA 0x37 .zeropageIndexedX 6 (some 0x0034) false (some (regs [.A, .X])) (some (regs [.A])) (some (flags [.N, .Z, .C])) true 2 "37 34   " "RLA $34,X",
    sweepRow .SEC 0x38 .implied 2 none false none none (some (flags [.C])) false 1 "38      " "SEC",
    sweepRow .AND 0x39 (.absoluteIndexedY true) 4 (some 0x1234) true (some (regs [.A, .Y])) (some (regs [.A])) (some (flags [.N, .Z])) false 3 "39 34 12" "AND $1234,Y",
    sweepRow .NOP 0x3A .implied 2 none false none none none true 1 "3A      " "NOP",
    sweepRow .RLA 0x3B (.absoluteIndexedY false) 7 (some 0x1234) false (some (regs [.A, .Y])) (some (regs [.A])) (some (flags [.N, .Z, .C])) true 3 "3B 34 12" "RLA $1234,Y",
    sweepRow .NOP 0x3C (.absoluteIndexedX true) 4 (some 0x1234) true (some (regs [.X])) none none true 3 "3C 34 12" "NOP $1234,X",
    sweepRow .AND 0x3D (.absoluteIndexedX true) 4 (some 0x1234) true (some (regs [.A, .X])) (some (regs [.A])) (some (flags [.N, .Z])) false 3 "3D 34 12" "AND $1234,X",
    sweepRow .ROL 0x3E (.absoluteIndexedX false) 7 (some 0x1234) false (some (regs [.X])) none (some (flags [.N, .Z, .C])) false 3 "3E 34 12" "ROL $1234,X",
    sweepRow .RLA 0x3F (.absoluteIndexedX false) 7 (some 0x1234) false (some (regs [.A, .X])) (some (regs [.A])) (some (flags [.N, .Z, .C])) true 3 "3F 34 12" "RLA $1234,X"] := by
  rfl

theorem test_decode_3 : decodePage 0x30 = [
    .bmiRel30 0x34, .andIzy31 0x34, .hltImp32, .rlaIzy33 0x34, .nopZpx34 0x34, .andZpx35 0x34, .rolZpx36 0x34,
    .rlaZpx37 0x34, .secImp38, .andAby39 0x34 0x12, .nopImp3A, .rlaAby3B 0x34 0x12, .nopAbx3C 0x34 0x12,
    .andAbx3D 0x34 0x12, .rolAbx3E 0x34 0x12, .rlaAbx3F 0x34 0x12].map some := by
  rfl

theorem test_sweep_4 : sweepPage 0x40 = [
    sweepRow .RTI 0x40 .implied 6 none false none none (some (flags [.N, .V, .B, .D, .I, .Z, .C])) false 1 "40      " "RTI",
    sweepRow .EOR 0x41 .indexedIndirectX 6 (some 0x0034) false (some (regs [.A, .X])) (some (regs [.A])) (some (flags [.N, .Z])) false 2 "41 34   " "EOR ($34,X)",
    sweepRow .HLT 0x42 .implied hltCyclesByte none false none none none true 1 "42      " "HLT",
    sweepRow .SRE 0x43 .indexedIndirectX 8 (some 0x0034) false (some (regs [.A, .X])) (some (regs [.A])) (some (flags [.N, .Z, .C])) true 2 "43 34   " "SRE ($34,X)",
    sweepRow .NOP 0x44 .zeropage 3 (some 0x0034) false none none none true 2 "44 34   " "NOP $34",
    sweepRow .EOR 0x45 .zeropage 3 (some 0x0034) false (some (regs [.A])) (some (regs [.A])) (some (flags [.N, .Z])) false 2 "45 34   " "EOR $34",
    sweepRow .LSR 0x46 .zeropage 5 (some 0x0034) false none none (some (flags [.N, .Z, .C])) false 2 "46 34   " "LSR $34",
    sweepRow .SRE 0x47 .zeropage 5 (some 0x0034) false (some (regs [.A])) (some (regs [.A])) (some (flags [.N, .Z, .C])) true 2 "47 34   " "SRE $34",
    sweepRow .PHA 0x48 .implied 3 none false (some (regs [.A])) none none false 1 "48      " "PHA",
    sweepRow .EOR 0x49 .immediate 2 (some 0x0034) false (some (regs [.A])) (some (regs [.A])) (some (flags [.N, .Z])) false 2 "49 34   " "EOR #$34",
    sweepRow .LSR 0x4A .accumulator 2 none false (some (regs [.A])) (some (regs [.A])) (some (flags [.N, .Z, .C])) false 1 "4A      " "LSR A",
    sweepRow .ALR 0x4B .immediate 2 (some 0x0034) false (some (regs [.A])) (some (regs [.A])) none true 2 "4B 34   " "ALR #$34",
    sweepRow .JMP 0x4C .absolute 3 (some 0x1234) false none none none false 3 "4C 34 12" "JMP $1234",
    sweepRow .EOR 0x4D .absolute 4 (some 0x1234) false (some (regs [.A])) (some (regs [.A])) (some (flags [.N, .Z])) false 3 "4D 34 12" "EOR $1234",
    sweepRow .LSR 0x4E .absolute 6 (some 0x1234) false none none (some (flags [.N, .Z, .C])) false 3 "4E 34 12" "LSR $1234",
    sweepRow .SRE 0x4F .absolute 6 (some 0x1234) false (some (regs [.A])) (some (regs [.A])) (some (flags [.N, .Z, .C])) true 3 "4F 34 12" "SRE $1234"] := by
  rfl

theorem test_decode_4 : decodePage 0x40 = [
    .rtiImp40, .eorIzx41 0x34, .hltImp42, .sreIzx43 0x34, .nopZp44 0x34, .eorZp45 0x34, .lsrZp46 0x34,
    .sreZp47 0x34, .phaImp48, .eorImm49 0x34, .lsrAcc4A, .alrImm4B 0x34, .jmpAbs4C 0x34 0x12, .eorAbs4D 0x34 0x12,
    .lsrAbs4E 0x34 0x12, .sreAbs4F 0x34 0x12].map some := by
  rfl

theorem test_sweep_5 : sweepPage 0x50 = [
    sweepRow .BVC 0x50 .relative 2 (some 0x0034) true none none none false 2 "50 34   " "BVC $1036",
    sweepRow .EOR 0x51 (.indirectIndexedY true) 5 (some 0x0034) true (some (regs [.A, .Y])) (some (regs [.A])) (some (flags [.N, .Z])) false 2 "51 34   " "EOR ($34),Y",
    sweepRow .HLT 0x52 .implied hltCyclesByte none false none none none true 1 "52      " "HLT",
    sweepRow .SRE 0x53 (.indirectIndexedY false) 8 (some 0x0034) false (some (regs [.A, .Y])) (some (regs [.A])) (some (flags [.N, .Z, .C])) true 2 "53 34   " "SRE ($34),Y",
    sweepRow .NOP 0x54 .zeropageIndexedX 4 (some 0x0034) false (some (regs [.X])) none none true 2 "54 34   " "NOP $34,X",
    sweepRow .EOR 0x55 .zeropageIndexedX 4 (some 0x0034) false (some (regs [.A, .X])) (some (regs [.A])) (some (flags [.N, .Z])) false 2 "55 34   " "EOR $34,X",
    sweepRow .LSR 0x56 .zeropageIndexedX 6 (some 0x0034) false (some (regs [.X])) none (some (flags [.N, .Z, .C])) false 2 "56 34   " "LSR $34,X",
    sweepRow .SRE 0x57 .zeropageIndexedX 6 (some 0x0034) false (some (regs [.A, .X])) (some (regs [.A])) (some (flags [.N, .Z, .C])) true 2 "57 34   " "SRE $34,X",
    sweepRow .CLI 0x58 .implied 2 none false none none (some (flags [.I])) false 1 "58      " "CLI",
    sweepRow .EOR 0x59 (.absoluteIndexedY true) 4 (some 0x1234) true (some (regs [.A, .Y])) (some (regs [.A])) (some (flags [.N, .Z])) false 3 "59 34 12" "EOR $1234,Y",
    sweepRow .NOP 0x5A .implied 2 none false none none none true 1 "5A      " "NOP",
    sweepRow .SRE 0x5B (.absoluteIndexedY false) 7 (some 0x1234) false (some (regs [.A, .Y])) (some (regs [.A])) (some (flags [.N, .Z, .C])) true 3 "5B 34 12" "SRE $1234,Y",
    sweepRow .NOP 0x5C (.absoluteIndexedX true) 4 (some 0x1234) true (some (regs [.X])) none none true 3 "5C 34 12" "NOP $1234,X",
    sweepRow .EOR 0x5D (.absoluteIndexedX true) 4 (some 0x1234) true (some (regs [.A, .X])) (some (regs [.A])) (some (flags [.N, .Z])) false 3 "5D 34 12" "EOR $1234,X",
    sweepRow .LSR 0x5E (.absoluteIndexedX false) 7 (some 0x1234) false (some (regs [.X])) none (some (flags [.N, .Z, .C])) false 3 "5E 34 12" "LSR $1234,X",
    sweepRow .SRE 0x5F (.absoluteIndexedX false) 7 (some 0x1234) false (some (regs [.A, .X])) (some (regs [.A])) (some (flags [.N, .Z, .C])) true 3 "5F 34 12" "SRE $1234,X"] := by
  rfl

theorem test_decode_5 : decodePage 0x50 = [
    .bvcRel50 0x34, .eorIzy51 0x34, .hltImp52, .sreIzy53 0x34, .nopZpx54 0x34, .eorZpx55 0x34, .lsrZpx56 0x34,
    .sreZpx57 0x34, .cliImp58, .eorAby59 0x34 0x12, .nopImp5A, .sreAby5B 0x34 0x12, .nopAbx5C 0x34 0x12,
    .eorAbx5D 0x34 0x12, .lsrAbx5E 0x34 0x12, .sreAbx5F 0x34 0x12].map some := by
  rfl

theorem test_sweep_6 : sweepPage 0x60 = [
    sweepRow .RTS 0x60 .implied 6 none false none none none false 1 "60      " "RTS",
    sweepRow .ADC 0x61 .indexedIndirectX 6 (some 0x0034) false (some (regs [.A, .X])) (some (regs [.A])) (some (flags [.N, .V, .Z, .C])) false 2 "61 34   " "ADC ($34,X)",
    sweepRow .HLT 0x62 .implied hltCyclesByte none false none none none true 1 "62      " "HLT",
    sweepRow .RRA 0x63 .indexedIndirectX 8 (some 0x0034) false (some (regs [.A, .X])) (some (regs [.A])) (some (flags [.N, .V, .Z, .C])) true 2 "63 34   " "RRA ($34,X)",
    sweepRow .NOP 0x64 .zeropage 3 (some 0x0034) false none none none true 2 "64 34   " "NOP $34",
    sweepRow .ADC 0x65 .zeropage 3 (some 0x0034) false (some (regs [.A])) (some (regs [.A])) (some (flags [.N, .V, .Z, .C])) false 2 "65 34   " "ADC $34",
    sweepRow .ROR 0x66 .zeropage 5 (some 0x0034) false none none (some (flags [.N, .Z, .C])) false 2 "66 34   " "ROR $34",
    sweepRow .RRA 0x67 .zeropage 5 (some 0x0034) false (some (regs [.A])) (some (regs [.A])) (some (flags [.N, .V, .Z, .C])) true 2 "67 34   " "RRA $34",
    sweepRow .PLA 0x68 .implied 4 none false none (some (regs [.A])) (some (flags [.N, .Z])) false 1 "68      " "PLA",
    sweepRow .ADC 0x69 .immediate 2 (some 0x0034) false (some (regs [.A])) (some (regs [.A])) (some (flags [.N, .V, .Z, .C])) false 2 "69 34   " "ADC #$34",
    sweepRow .ROR 0x6A .accumulator 2 none false (some (regs [.A])) (some (regs [.A])) (some (flags [.N, .Z, .C])) false 1 "6A      " "ROR A",
    sweepRow .ARR 0x6B .immediate 2 (some 0x0034) false (some (regs [.A])) (some (regs [.A])) none true 2 "6B 34   " "ARR #$34",
    sweepRow .JMP 0x6C .indirect 5 (some 0x1234) false none none none false 3 "6C 34 12" "JMP ($1234)",
    sweepRow .ADC 0x6D .absolute 4 (some 0x1234) false (some (regs [.A])) (some (regs [.A])) (some (flags [.N, .V, .Z, .C])) false 3 "6D 34 12" "ADC $1234",
    sweepRow .ROR 0x6E .absolute 6 (some 0x1234) false none none (some (flags [.N, .Z, .C])) false 3 "6E 34 12" "ROR $1234",
    sweepRow .RRA 0x6F .absolute 6 (some 0x1234) false (some (regs [.A])) (some (regs [.A])) (some (flags [.N, .V, .Z, .C])) true 3 "6F 34 12" "RRA $1234"] := by
  rfl

theorem test_decode_6 : decodePage 0x60 = [
    .rtsImp60, .adcIzx61 0x34, .hltImp62, .rraIzx63 0x34, .nopZp64 0x34, .adcZp65 0x34, .rorZp66 0x34,
    .rraZp67 0x34, .plaImp68, .adcImm69 0x34, .rorAcc6A, .arrImm6B 0x34, .jmpInd6C 0x34 0x12, .adcAbs6D 0x34 0x12,
    .rorAbs6E 0x34 0x12, .rraAbs6F 0x34 0x12].map some := by
  rfl

theorem test_sweep_7 : sweepPage 0x70 = [
    sweepRow .BVS 0x70 .relative 2 (some 0x0034) true none none none false 2 "70 34   " "BVS $1036",
    sweepRow .ADC 0x71 (.indirectIndexedY true) 5 (some 0x0034) true (some (regs [.A, .Y])) (some (regs [.A])) (some (flags [.N, .V, .Z, .C])) false 2 "71 34   " "ADC ($34),Y",
    sweepRow .HLT 0x72 .implied hltCyclesByte none false none none none true 1 "72      " "HLT",
    sweepRow .RRA 0x73 (.indirectIndexedY false) 8 (some 0x0034) false (some (regs [.A, .Y])) (some (regs [.A])) (some (flags [.N, .V, .Z, .C])) true 2 "73 34   " "RRA ($34),Y",
    sweepRow .NOP 0x74 .zeropageIndexedX 4 (some 0x0034) false (some (regs [.X])) none none true 2 "74 34   " "NOP $34,X",
    sweepRow .ADC 0x75 .zeropageIndexedX 4 (some 0x0034) false (some (regs [.A, .X])) (some (regs [.A])) (some (flags [.N, .V, .Z, .C])) false 2 "75 34   " "ADC $34,X",
    sweepRow .ROR 0x76 .zeropageIndexedX 6 (some 0x0034) false (some (regs [.X])) none (some (flags [.N, .Z, .C])) false 2 "76 34   " "ROR $34,X",
    sweepRow .RRA 0x77 .zeropageIndexedX 6 (some 0x0034) false (some (regs [.A, .X])) (some (regs [.A])) (some (flags [.N, .V, .Z, .C])) true 2 "77 34   " "RRA $34,X",
    sweepRow .SEI 0x78 .implied 2 none false none none (some (flags [.I])) false 1 "78      " "SEI",
    sweepRow .ADC 0x79 (.absoluteIndexedY true) 4 (some 0x1234) true (some (regs [.A, .Y])) (some (regs [.A])) (some (flags [.N, .V, .Z, .C])) false 3 "79 34 12" "ADC $1234,Y",
    sweepRow .NOP 0x7A .implied 2 none false none none none true 1 "7A      " "NOP",
    sweepRow .RRA 0x7B (.absoluteIndexedY false) 7 (some 0x1234) false (some (regs [.A, .Y])) (some (regs [.A])) (some (flags [.N, .V, .Z, .C])) true 3 "7B 34 12" "RRA $1234,Y",
    sweepRow .NOP 0x7C (.absoluteIndexedX true) 4 (some 0x1234) true (some (regs [.X])) none none true 3 "7C 34 12" "NOP $1234,X",
    sweepRow .ADC 0x7D (.absoluteIndexedX true) 4 (some 0x1234) true (some (regs [.A, .X])) (some (regs [.A])) (some (flags [.N, .V, .Z, .C])) false 3 "7D 34 12" "ADC $1234,X",
    sweepRow .ROR 0x7E (.absoluteIndexedX false) 7 (some 0x1234) false (some (regs [.X])) none (some (flags [.N, .Z, .C])) false 3 "7E 34 12" "ROR $1234,X",
    sweepRow .RRA 0x7F (.absoluteIndexedX false) 7 (some 0x1234) false (some (regs [.A, .X])) (some (regs [.A])) (some (flags [.N, .V, .Z, .C])) true 3 "7F 34 12" "RRA $1234,X"] := by
  rfl

theorem test_decode_7 : decodePage 0x70 = [
    .bvsRel70 0x34, .adcIzy71 0x34, .hltImp72, .rraIzy73 0x34, .nopZpx74 0x34, .adcZpx75 0x34, .rorZpx76 0x34,
    .rraZpx77 0x34, .seiImp78, .adcAby79 0x34 0x12, .nopImp7A, .rraAby7B 0x34 0x12, .nopAbx7C 0x34 0x12,
    .adcAbx7D 0x34 0x12, .rorAbx7E 0x34 0x12, .rraAbx7F 0x34 0x12].map some := by
  rfl

theorem test_sweep_8 : sweepPage 0x80 = [
    sweepRow .NOP 0x80 .immediate 2 (some 0x0034) false none none none true 2 "80 34   " "NOP #$34",
    sweepRow .STA 0x81 .indexedIndirectX 6 (some 0x0034) false (some (regs [.A, .X])) none none false 2 "81 34   " "STA ($34,X)",
    sweepRow .NOP 0x82 .immediate 2 (some 0x0034) false none none none true 2 "82 34   " "NOP #$34",
    sweepRow .SAX 0x83 .indexedIndirectX 6 (some 0x0034) false (some (regs [.A, .X])) none none true 2 "83 34   " "SAX ($34,X)",
    sweepRow .STY 0x84 .zeropage 3 (some 0x0034) false (some (regs [.Y])) none none false 2 "84 34   " "STY $34",
    sweepRow .STA 0x85 .zeropage 3 (some 0x0034) false (some (regs [.A])) none none false 2 "85 34   " "STA $34",
    sweepRow .STX 0x86 .zeropage 3 (some 0x0034) false (some (regs [.X])) none none false 2 "86 34   " "STX $34",
    sweepRow .SAX 0x87 .zeropage 3 (some 0x0034) false (some (regs [.A, .X])) none none true 2 "87 34   " "SAX $34",
    sweepRow .DEY 0x88 .implied 2 none false (some (regs [.Y])) (some (regs [.Y])) (some (flags [.N, .Z])) false 1 "88      " "DEY",
    sweepRow .NOP 0x89 .immediate 2 (some 0x0034) false none none none true 2 "89 34   " "NOP #$34",
    sweepRow .TXA 0x8A .implied 2 none false (some (regs [.X])) (some (regs [.A])) (some (flags [.N, .Z])) false 1 "8A      " "TXA",
    sweepRow .XAA 0x8B .immediate 2 (some 0x0034) false (some (regs [.A, .X])) (some (regs [.A])) none true 2 "8B 34   " "XAA #$34",
    sweepRow .STY 0x8C .absolute 4 (some 0x1234) false (some (regs [.Y])) none none false 3 "8C 34 12" "STY $1234",
    sweepRow .STA 0x8D .absolute 4 (some 0x1234) false (some (regs [.A])) none none false 3 "8D 34 12" "STA $1234",
    sweepRow .STX 0x8E .absolute 4 (some 0x1234) false (some (regs [.X])) none none false 3 "8E 34 12" "STX $1234",
    sweepRow .SAX 0x8F .absolute 4 (some 0x1234) false (some (regs [.A, .X])) none none true 3 "8F 34 12" "SAX $1234"] := by
  rfl

theorem test_decode_8 : decodePage 0x80 = [
    .nopImm80 0x34, .staIzx81 0x34, .nopImm82 0x34, .saxIzx83 0x34, .styZp84 0x34, .staZp85 0x34, .stxZp86 0x34,
    .saxZp87 0x34, .deyImp88, .nopImm89 0x34, .txaImp8A, .xaaImm8B 0x34, .styAbs8C 0x34 0x12, .staAbs8D 0x34 0x12,
    .stxAbs8E 0x34 0x12, .saxAbs8F 0x34 0x12].map some := by
  rfl

theorem test_sweep_9 : sweepPage 0x90 = [
    sweepRow .BCC 0x90 .relative 2 (some 0x0034) true none none none false 2 "90 34   " "BCC $1036",
    sweepRow .STA 0x91 (.indirectIndexedY false) 6 (some 0x0034) false (some (regs [.A, .Y])) none none false 2 "91 34   " "STA ($34),Y",
    sweepRow .HLT 0x92 .implied hltCyclesByte none false none none none true 1 "92      " "HLT",
    sweepRow .AHX 0x93 (.indirectIndexedY false) 6 (some 0x0034) false (some (regs [.A, .X, .Y])) none none true 2 "93 34   " "AHX ($34),Y",
    sweepRow .STY 0x94 .zeropageIndexedX 4 (some 0x0034) false (some (regs [.X, .Y])) none none false 2 "94 34   " "STY $34,X",
    sweepRow .STA 0x95 .zeropageIndexedX 4 (some 0x0034) false (some (regs [.A, .X])) none none false 2 "95 34   " "STA $34,X",
    sweepRow .STX 0x96 .zeropageIndexedY 4 (some 0x0034) false (some (regs [.X, .Y])) none none false 2 "96 34   " "STX $34,Y",
    sweepRow .SAX 0x97 .zeropageIndexedY 4 (some 0x0034) false (some (regs [.A, .X, .Y])) none none true 2 "97 34   " "SAX $34,Y",
    sweepRow .TYA 0x98 .implied 2 none false (some (regs [.Y])) (some (regs [.A])) (some (flags [.N, .Z])) false 1 "98      " "TYA",
    sweepRow .STA 0x99 (.absoluteIndexedY false) 5 (some 0x1234) false (some (regs [.A, .Y])) none none false 3 "99 34 12" "STA $1234,Y",
    sweepRow .TXS 0x9A .implied 2 none false (some (regs [.X])) none none false 1 "9A      " "TXS",
    sweepRow .TAS 0x9B (.absoluteIndexedY false) 5 (some 0x1234) false (some (regs [.A, .X, .Y])) none none true 3 "9B 34 12" "TAS $1234,Y",
    sweepRow .SHY 0x9C (.absoluteIndexedX false) 5 (some 0x1234) false (some (regs [.X, .Y])) none none true 3 "9C 34 12" "SHY $1234,X",
    sweepRow .STA 0x9D (.absoluteIndexedX false) 5 (some 0x1234) false (some (regs [.A, .X])) none none false 3 "9D 34 12" "STA $1234,X",
    sweepRow .SHX 0x9E (.absoluteIndexedY false) 5 (some 0x1234) false (some (regs [.X, .Y])) none none true 3 "9E 34 12" "SHX $1234,Y",
    sweepRow .AHX 0x9F (.absoluteIndexedY false) 5 (some 0x1234) false (some (regs [.A, .X, .Y])) none none true 3 "9F 34 12" "AHX $1234,Y"] := by
  rfl

theorem test_decode_9 : decodePage 0x90 = [
    .bccRel90 0x34, .staIzy91 0x34, .hltImp92, .ahxIzy93 0x34, .styZpx94 0x34, .staZpx95 0x34, .stxZpy96 0x34,
    .saxZpy97 0x34, .tyaImp98, .staAby99 0x34 0x12, .txsImp9A, .tasAby9B 0x34 0x12, .shyAbx9C 0x34 0x12,
    .staAbx9D 0x34 0x12, .shxAby9E 0x34 0x12, .ahxAby9F 0x34 0x12].map some := by
  rfl

theorem test_sweep_A : sweepPage 0xA0 = [
    sweepRow .LDY 0xA0 .immediate 2 (some 0x0034) false none (some (regs [.Y])) (some (flags [.N, .Z])) false 2 "A0 34   " "LDY #$34",
    sweepRow .LDA 0xA1 .indexedIndirectX 6 (some 0x0034) false (some (regs [.X])) (some (regs [.A])) (some (flags [.N, .Z])) false 2 "A1 34   " "LDA ($34,X)",
    sweepRow .LDX 0xA2 .immediate 2 (some 0x0034) false none (some (regs [.X])) (some (flags [.N, .Z])) false 2 "A2 34   " "LDX #$34",
    sweepRow .LAX 0xA3 .indexedIndirectX 6 (some 0x0034) false (some (regs [.X])) (some (regs [.A, .X])) (some (flags [.N, .Z])) true 2 "A3 34   " "LAX ($34,X)",
    sweepRow .LDY 0xA4 .zeropage 3 (some 0x0034) false none (some (regs [.Y])) (some (flags [.N, .Z])) false 2 "A4 34   " "LDY $34",
    sweepRow .LDA 0xA5 .zeropage 3 (some 0x0034) false none (some (regs [.A])) (some (flags [.N, .Z])) false 2 "A5 34   " "LDA $34",
    sweepRow .LDX 0xA6 .zeropage 3 (some 0x0034) false none (some (regs [.X])) (some (flags [.N, .Z])) false 2 "A6 34   " "LDX $34",
    sweepRow .LAX 0xA7 .zeropage 3 (some 0x0034) false none (some (regs [.A, .X])) (some (flags [.N, .Z])) true 2 "A7 34   " "LAX $34",
    sweepRow .TAY 0xA8 .implied 2 none false (some (regs [.A])) (some (regs [.Y])) (some (flags [.N, .Z])) false 1 "A8      " "TAY",
    sweepRow .LDA 0xA9 .immediate 2 (some 0x0034) false none (some (regs [.A])) (some (flags [.N, .Z])) false 2 "A9 34   " "LDA #$34",
    sweepRow .TAX 0xAA .implied 2 none false (some (regs [.A])) (some (regs [.X])) (some (flags [.N, .Z])) false 1 "AA      " "TAX",
    sweepRow .LAX 0xAB .immediate 2 (some 0x0034) false none (some (regs [.A, .X])) (some (flags [.N, .Z])) true 2 "AB 34   " "LAX #$34",
    sweepRow .LDY 0xAC .absolute 4 (some 0x1234) false none (some (regs [.Y])) (some (flags [.N, .Z])) false 3 "AC 34 12" "LDY $1234",
    sweepRow .LDA 0xAD .absolute 4 (some 0x1234) false none (some (regs [.A])) (some (flags [.N, .Z])) false 3 "AD 34 12" "LDA $1234",
    sweepRow .LDX 0xAE .absolute 4 (some 0x1234) false none (some (regs [.X])) (some (flags [.N, .Z])) false 3 "AE 34 12" "LDX $1234",
    sweepRow .LAX 0xAF .absolute 4 (some 0x1234) false none (some (regs [.A, .X])) (some (flags [.N, .Z])) true 3 "AF 34 12" "LAX $1234"] := by
  rfl

theorem test_decode_A : decodePage 0xA0 = [
    .ldyImmA0 0x34, .ldaIzxA1 0x34, .ldxImmA2 0x34, .laxIzxA3 0x34, .ldyZpA4 0x34, .ldaZpA5 0x34, .ldxZpA6 0x34,
    .laxZpA7 0x34, .tayImpA8, .ldaImmA9 0x34, .taxImpAA, .laxImmAB 0x34, .ldyAbsAC 0x34 0x12, .ldaAbsAD 0x34 0x12,
    .ldxAbsAE 0x34 0x12, .laxAbsAF 0x34 0x12].map some := by
  rfl

theorem test_sweep_B : sweepPage 0xB0 = [
    sweepRow .BCS 0xB0 .relative 2 (some 0x0034) true none none none false 2 "B0 34   " "BCS $1036",
    sweepRow .LDA 0xB1 (.indirectIndexedY true) 5 (some 0x0034) true (some (regs [.Y])) (some (regs [.A])) (some (flags [.N, .Z])) false 2 "B1 34   " "LDA ($34),Y",
    sweepRow .HLT 0xB2 .implied hltCyclesByte none false none none none true 1 "B2      " "HLT",
    sweepRow .LAX 0xB3 (.indirectIndexedY true) 5 (some 0x0034) true (some (regs [.Y])) (some (regs [.A, .X])) (some (flags [.N, .Z])) true 2 "B3 34   " "LAX ($34),Y",
    sweepRow .LDY 0xB4 .zeropageIndexedX 4 (some 0x0034) false (some (regs [.X])) (some (regs [.Y])) (some (flags [.N, .Z])) false 2 "B4 34   " "LDY $34,X",
    sweepRow .LDA 0xB5 .zeropageIndexedX 4 (some 0x0034) false (some (regs [.X])) (some (regs [.A])) (some (flags [.N, .Z])) false 2 "B5 34   " "LDA $34,X",
    sweepRow .LDX 0xB6 .zeropageIndexedY 4 (some 0x0034) false (some (regs [.Y])) (some (regs [.X])) (some (flags [.N, .Z])) false 2 "B6 34   " "LDX $34,Y",
    sweepRow .LAX 0xB7 .zeropageIndexedY 4 (some 0x0034) false (some (regs [.Y])) (some (regs [.A, .X])) (some (flags [.N, .Z])) true 2 "B7 34   " "LAX $34,Y",
    sweepRow .CLV 0xB8 .implied 2 none false none none (some (flags [.V])) false 1 "B8      " "CLV",
    sweepRow .LDA 0xB9 (.absoluteIndexedY true) 4 (some 0x1234) true (some (regs [.Y])) (some (regs [.A])) (some (flags [.N, .Z])) false 3 "B9 34 12" "LDA $1234,Y",
    sweepRow .TSX 0xBA .implied 2 none false none (some (regs [.X])) (some (flags [.N, .Z])) false 1 "BA      " "TSX",
    sweepRow .LAS 0xBB (.absoluteIndexedY true) 4 (some 0x1234) true (some (regs [.Y])) (some (regs [.A, .X])) none true 3 "BB 34 12" "LAS $1234,Y",
    sweepRow .LDY 0xBC (.absoluteIndexedX true) 4 (some 0x1234) true (some (regs [.X])) (some (regs [.Y])) (some (flags [.N, .Z])) false 3 "BC 34 12" "LDY $1234,X",
    sweepRow .LDA 0xBD (.absoluteIndexedX true) 4 (some 0x1234) true (some (regs [.X])) (some (regs [.A])) (some (flags [.N, .Z])) false 3 "BD 34 12" "LDA $1234,X",
    sweepRow .LDX 0xBE (.absoluteIndexedY true) 4 (some 0x1234) true (some (regs [.Y])) (some (regs [.X])) (some (flags [.N, .Z])) false 3 "BE 34 12" "LDX $1234,Y",
    sweepRow .LAX 0xBF (.absoluteIndexedY true) 4 (some 0x1234) true (some (regs [.Y])) (some (regs [.A, .X])) (some (flags [.N, .Z])) true 3 "BF 34 12" "LAX $1234,Y"] := by
  rfl

theorem test_decode_B : decodePage 0xB0 = [
    .bcsRelB0 0x34, .ldaIzyB1 0x34, .hltImpB2, .laxIzyB3 0x34, .ldyZpxB4 0x34, .ldaZpxB5 0x34, .ldxZpyB6 0x34,
    .laxZpyB7 0x34, .clvImpB8, .ldaAbyB9 0x34 0x12, .tsxImpBA, .lasAbyBB 0x34 0x12, .ldyAbxBC 0x34 0x12,
    .ldaAbxBD 0x34 0x12, .ldxAbyBE 0x34 0x12, .laxAbyBF 0x34 0x12].map some := by
  rfl

theorem test_sweep_C : sweepPage 0xC0 = [
    sweepRow .CPY 0xC0 .immediate 2 (some 0x0034) false (some (regs [.Y])) none (some (flags [.N, .Z, .C])) false 2 "C0 34   " "CPY #$34",
    sweepRow .CMP 0xC1 .indexedIndirectX 6 (some 0x0034) false (some (regs [.A, .X])) none (some (flags [.N, .Z, .C])) false 2 "C1 34   " "CMP ($34,X)",
    sweepRow .NOP 0xC2 .immediate 2 (some 0x0034) false none none none true 2 "C2 34   " "NOP #$34",
    sweepRow .DCP 0xC3 .indexedIndirectX 8 (some 0x0034) false (some (regs [.A, .X])) none (some (flags [.N, .Z, .C])) true 2 "C3 34   " "DCP ($34,X)",
    sweepRow .CPY 0xC4 .zeropage 3 (some 0x0034) false (some (regs [.Y])) none (some (flags [.N, .Z, .C])) false 2 "C4 34   " "CPY $34",
    sweepRow .CMP 0xC5 .zeropage 3 (some 0x0034) false (some (regs [.A])) none (some (flags [.N, .Z, .C])) false 2 "C5 34   " "CMP $34",
    sweepRow .DEC 0xC6 .zeropage 5 (some 0x0034) false none none (some (flags [.N, .Z])) false 2 "C6 34   " "DEC $34",
    sweepRow .DCP 0xC7 .zeropage 5 (some 0x0034) false (some (regs [.A])) none (some (flags [.N, .Z, .C])) true 2 "C7 34   " "DCP $34",
    sweepRow .INY 0xC8 .implied 2 none false (some (regs [.Y])) (some (regs [.Y])) (some (flags [.N, .Z])) false 1 "C8      " "INY",
    sweepRow .CMP 0xC9 .immediate 2 (some 0x0034) false (some (regs [.A])) none (some (flags [.N, .Z, .C])) false 2 "C9 34   " "CMP #$34",
    sweepRow .DEX 0xCA .implied 2 none false (some (regs [.X])) (some (regs [.X])) (some (flags [.N, .Z])) false 1 "CA      " "DEX",
    sweepRow .AXS 0xCB .immediate 2 (some 0x0034) false (some (regs [.A, .X])) (some (regs [.X])) none true 2 "CB 34   " "AXS #$34",
    sweepRow .CPY 0xCC .absolute 4 (some 0x1234) false (some (regs [.Y])) none (some (flags [.N, .Z, .C])) false 3 "CC 34 12" "CPY $1234",
    sweepRow .CMP 0xCD .absolute 4 (some 0x1234) false (some (regs [.A])) none (some (flags [.N, .Z, .C])) false 3 "CD 34 12" "CMP $1234",
    sweepRow .DEC 0xCE .absolute 6 (some 0x1234) false none none (some (flags [.N, .Z])) false 3 "CE 34 12" "DEC $1234",
    sweepRow .DCP 0xCF .absolute 6 (some 0x1234) false (some (regs [.A])) none (some (flags [.N, .Z, .C])) true 3 "CF 34 12" "DCP $1234"] := by
  rfl

theorem test_decode_C : decodePage 0xC0 = [
    .cpyImmC0 0x34, .cmpIzxC1 0x34, .nopImmC2 0x34, .dcpIzxC3 0x34, .cpyZpC4 0x34, .cmpZpC5 0x34, .decZpC6 0x34,
    .dcpZpC7 0x34, .inyImpC8, .cmpImmC9 0x34, .dexImpCA, .axsImmCB 0x34, .cpyAbsCC 0x34 0x12, .cmpAbsCD 0x34 0x12,
    .decAbsCE 0x34 0x12, .dcpAbsCF 0x34 0x12].map some := by
  rfl

theorem test_sweep_D : sweepPage 0xD0 = [
    sweepRow .BNE 0xD0 .relative 2 (some 0x0034) true none none none false 2 "D0 34   " "BNE $1036",
    sweepRow .CMP 0xD1 (.indirectIndexedY true) 5 (some 0x0034) true (some (regs [.A, .Y])) none (some (flags [.N, .Z, .C])) false 2 "D1 34   " "CMP ($34),Y",
    sweepRow .HLT 0xD2 .implied hltCyclesByte none false none none none true 1 "D2      " "HLT",
    sweepRow .DCP 0xD3 (.indirectIndexedY false) 8 (some 0x0034) false (some (regs [.A, .Y])) none (some (flags [.N, .Z, .C])) true 2 "D3 34   " "DCP ($34),Y",
    sweepRow .NOP 0xD4 .zeropageIndexedX 4 (some 0x0034) false (some (regs [.X])) none none true 2 "D4 34   " "NOP $34,X",
    sweepRow .CMP 0xD5 .zeropageIndexedX 4 (some 0x0034) false (some (regs [.A, .X])) none (some (flags [.N, .Z, .C])) false 2 "D5 34   " "CMP $34,X",
    sweepRow .DEC 0xD6 .zeropageIndexedX 6 (some 0x0034) false (some (regs [.X])) none (some (flags [.N, .Z])) false 2 "D6 34   " "DEC $34,X",
    sweepRow .DCP 0xD7 .zeropageIndexedX 6 (some 0x0034) false (some (regs [.A, .X])) none (some (flags [.N, .Z, .C])) true 2 "D7 34   " "DCP $34,X",
    sweepRow .CLD 0xD8 .implied 2 none false none none (some (flags [.D])) false 1 "D8      " "CLD",
    sweepRow .CMP 0xD9 (.absoluteIndexedY true) 4 (some 0x1234) true (some (regs [.A, .Y])) none (some (flags [.N, .Z, .C])) false 3 "D9 34 12" "CMP $1234,Y",
    sweepRow .NOP 0xDA .implied 2 none false none none none true 1 "DA      " "NOP",
    sweepRow .DCP 0xDB (.absoluteIndexedY false) 7 (some 0x1234) false (some (regs [.A, .Y])) none (some (flags [.N, .Z, .C])) true 3 "DB 34 12" "DCP $1234,Y",
    sweepRow .NOP 0xDC (.absoluteIndexedX true) 4 (some 0x1234) true (some (regs [.X])) none none true 3 "DC 34 12" "NOP $1234,X",
    sweepRow .CMP 0xDD (.absoluteIndexedX true) 4 (some 0x1234) true (some (regs [.A, .X])) none (some (flags [.N, .Z, .C])) false 3 "DD 34 12" "CMP $1234,X",
    sweepRow .DEC 0xDE (.absoluteIndexedX false) 7 (some 0x1234) false (some (regs [.X])) none (some (flags [.N, .Z])) false 3 "DE 34 12" "DEC $1234,X",
    sweepRow .DCP 0xDF (.absoluteIndexedX false) 7 (some 0x1234) false (some (regs [.A, .X])) none (some (flags [.N, .Z, .C])) true 3 "DF 34 12" "DCP $1234,X"] := by
  rfl

theorem test_decode_D : decodePage 0xD0 = [
    .bneRelD0 0x34, .cmpIzyD1 0x34, .hltImpD2, .dcpIzyD3 0x34, .nopZpxD4 0x34, .cmpZpxD5 0x34, .decZpxD6 0x34,
    .dcpZpxD7 0x34, .cldImpD8, .cmpAbyD9 0x34 0x12, .nopImpDA, .dcpAbyDB 0x34 0x12, .nopAbxDC 0x34 0x12,
    .cmpAbxDD 0x34 0x12, .decAbxDE 0x34 0x12, .dcpAbxDF 0x34 0x12].map some := by
  rfl

theorem test_sweep_E : sweepPage 0xE0 = [
    sweepRow .CPX 0xE0 .immediate 2 (some 0x0034) false (some (regs [.X])) none (some (flags [.N, .Z, .C])) false 2 "E0 34   " "CPX #$34",
    sweepRow .SBC 0xE1 .indexedIndirectX 6 (some 0x0034) false (some (regs [.A, .X])) (some (regs [.A])) (some (flags [.N, .V, .Z, .C])) false 2 "E1 34   " "SBC ($34,X)",
    sweepRow .NOP 0xE2 .immediate 2 (some 0x0034) false none none none true 2 "E2 34   " "NOP #$34",
    sweepRow .ISC 0xE3 .indexedIndirectX 8 (some 0x0034) false (some (regs [.A, .X])) (some (regs [.A])) (some (flags [.N, .V, .Z, .C])) true 2 "E3 34   " "ISC ($34,X)",
    sweepRow .CPX 0xE4 .zeropage 3 (some 0x0034) false (some (regs [.X])) none (some (flags [.N, .Z, .C])) false 2 "E4 34   " "CPX $34",
    sweepRow .SBC 0xE5 .zeropage 3 (some 0x0034) false (some (regs [.A])) (some (regs [.A])) (some (flags [.N, .V, .Z, .C])) false 2 "E5 34   " "SBC $34",
    sweepRow .INC 0xE6 .zeropage 5 (some 0x0034) false none none (some (flags [.N, .Z])) false 2 "E6 34   " "INC $34",
    sweepRow .ISC 0xE7 .zeropage 5 (some 0x0034) false (some (regs [.A])) (some (regs [.A])) (some (flags [.N, .V, .Z, .C])) true 2 "E7 34   " "ISC $34",
    sweepRow .INX 0xE8 .implied 2 none false (some (regs [.X])) (some (regs [.X])) (some (flags [.N, .Z])) false 1 "E8      " "INX",
    sweepRow .SBC 0xE9 .immediate 2 (some 0x0034) false (some (regs [.A])) (some (regs [.A])) (some (flags [.N, .V, .Z, .C])) false 2 "E9 34   " "SBC #$34",
    sweepRow .NOP 0xEA .implied 2 none false none none none false 1 "EA      " "NOP",
    sweepRow .SBC 0xEB .immediate 2 (some 0x0034) false (some (regs [.A])) (some (regs [.A])) (some (flags [.N, .V, .Z, .C])) true 2 "EB 34   " "SBC #$34",
    sweepRow .CPX 0xEC .absolute 4 (some 0x1234) false (some (regs [.X])) none (some (flags [.N, .Z, .C])) false 3 "EC 34 12" "CPX $1234",
    sweepRow .SBC 0xED .absolute 4 (some 0x1234) false (some (regs [.A])) (some (regs [.A])) (some (flags [.N, .V, .Z, .C])) false 3 "ED 34 12" "SBC $1234",
    sweepRow .INC 0xEE .absolute 6 (some 0x1234) false none none (some (flags [.N, .Z])) false 3 "EE 34 12" "INC $1234",
    sweepRow .ISC 0xEF .absolute 6 (some 0x1234) false (some (regs [.A])) (some (regs [.A])) (some (flags [.N, .V, .Z, .C])) true 3 "EF 34 12" "ISC $1234"] := by
  rfl

theorem test_decode_E : decodePage 0xE0 = [
    .cpxImmE0 0x34, .sbcIzxE1 0x34, .nopImmE2 0x34, .iscIzxE3 0x34, .cpxZpE4 0x34, .sbcZpE5 0x34, .incZpE6 0x34,
    .iscZpE7 0x34, .inxImpE8, .sbcImmE9 0x34, .nopImpEA, .sbcImmEB 0x34, .cpxAbsEC 0x34 0x12, .sbcAbsED 0x34 0x12,
    .incAbsEE 0x34 0x12, .iscAbsEF 0x34 0x12].map some := by
  rfl

theorem test_sweep_F : sweepPage 0xF0 = [
    sweepRow .BEQ 0xF0 .relative 2 (some 0x0034) true none none none false 2 "F0 34   " "BEQ $1036",
    sweepRow .SBC 0xF1 (.indirectIndexedY true) 5 (some 0x0034) true (some (regs [.A, .Y])) (some (regs [.A])) (some (flags [.N, .V, .Z, .C])) false 2 "F1 34   " "SBC ($34),Y",
    sweepRow .HLT 0xF2 .implied hltCyclesByte none false none none none true 1 "F2      " "HLT",
    sweepRow .ISC 0xF3 (.indirectIndexedY false) 8 (some 0x0034) false (some (regs [.A, .Y])) (some (regs [.A])) (some (flags [.N, .V, .Z, .C])) true 2 "F3 34   " "ISC ($34),Y",
    sweepRow .NOP 0xF4 .zeropageIndexedX 4 (some 0x0034) false (some (regs [.X])) none none true 2 "F4 34   " "NOP $34,X",
    sweepRow .SBC 0xF5 .zeropageIndexedX 4 (some 0x0034) false (some (regs [.A, .X])) (some (regs [.A])) (some (flags [.N, .V, .Z, .C])) false 2 "F5 34   " "SBC $34,X",
    sweepRow .INC 0xF6 .zeropageIndexedX 6 (some 0x0034) false (some (regs [.X])) none (some (flags [.N, .Z])) false 2 "F6 34   " "INC $34,X",
    sweepRow .ISC 0xF7 .zeropageIndexedX 6 (some 0x0034) false (some (regs [.A, .X])) (some (regs [.A])) (some (flags [.N, .V, .Z, .C])) true 2 "F7 34   " "ISC $34,X",
    sweepRow .SED 0xF8 .implied 2 none false none none (some (flags [.D])) false 1 "F8      " "SED",
    sweepRow .SBC 0xF9 (.absoluteIndexedY true) 4 (some 0x1234) true (some (regs [.A, .Y])) (some (regs [.A])) (some (flags [.N, .V, .Z, .C])) false 3 "F9 34 12" "SBC $1234,Y",
    sweepRow .NOP 0xFA .implied 2 none false none none none true 1 "FA      " "NOP",
    sweepRow .ISC 0xFB (.absoluteIndexedY false) 7 (some 0x1234) false (some (regs [.A, .Y])) (some (regs [.A])) (some (flags [.N, .V, .Z, .C])) true 3 "FB 34 12" "ISC $1234,Y",
    sweepRow .NOP 0xFC (.absoluteIndexedX true) 4 (some 0x1234) true (some (regs [.X])) none none true 3 "FC 34 12" "NOP $1234,X",
    sweepRow .SBC 0xFD (.absoluteIndexedX true) 4 (some 0x1234) true (some (regs [.A, .X])) (some (regs [.A])) (some (flags [.N, .V, .Z, .C])) false 3 "FD 34 12" "SBC $1234,X",
    sweepRow .INC 0xFE (.absoluteIndexedX false) 7 (some 0x1234) false (some (regs [.X])) none (some (flags [.N, .Z])) false 3 "FE 34 12" "INC $1234,X",
    sweepRow .ISC 0xFF (.absoluteIndexedX false) 7 (some 0x1234) false (some (regs [.A, .X])) (some (regs [.A])) (some (flags [.N, .V, .Z, .C])) true 3 "FF 34 12" "ISC $1234,X"] := by
  rfl

theorem test_decode_F : decodePage 0xF0 = [
    .beqRelF0 0x34, .sbcIzyF1 0x34, .hltImpF2, .iscIzyF3 0x34, .nopZpxF4 0x34, .sbcZpxF5 0x34, .incZpxF6 0x34,
    .iscZpxF7 0x34, .sedImpF8, .sbcAbyF9 0x34 0x12, .nopImpFA, .iscAbyFB 0x34 0x12, .nopAbxFC 0x34 0x12,
    .sbcAbxFD 0x34 0x12, .incAbxFE 0x34 0x12, .iscAbxFF 0x34 0x12].map some := by
  rfl

/-! ### Further vectors of 95_test_vectors.md -/

theorem test_display_T40_to_T45 :
    [start 0x0800 0 [0x90, 0x02], start 0xFFF0 0 [0x10, 0x7F], start 0x0000 0 [0x30, 0x80], start 0xFFFE 0 [0xF0, 0x00],
      start 0x1234 0 [0xB0, 0xFE], start 0x0000 0 [0x50, 0x7F]].map (fun s => (texts s).map (·.drop 2)) =
    ["$0800: 90 02    BCC $0804", "$FFF0: 10 7F    BPL $0071", "$0000: 30 80    BMI $FF82", "$FFFE: F0 00    BEQ $0000",
      "$1234: B0 FE    BCS $1234", "$0000: 50 7F    BVC $0081"].map (fun x => some [some x.toList]) := by
  rfl

theorem test_display_T46_to_T50 :
    [start 0xABCD 0 [0x8D, 0xEF, 0xBE], start 0x00FF 0 [0x61, 0xAB], start 0x00FF 0 [0x71, 0xCD], start 0x0100 0 [0x4A],
      start 0x0100 0 [0x60]].map (fun s => (texts s).map (·.drop 2)) =
    ["$ABCD: 8D EF BE STA $BEEF", "$00FF: 61 AB    ADC ($AB,X)", "$00FF: 71 CD    ADC ($CD),Y",
      "$0100: 4A       LSR A", "$0100: 60       RTS"].map (fun x => some [some x.toList]) := by
  rfl

/-- The operand, the cursor and the `AsHexStr` of the truncated decodes T14, T16, T17, T20 and T21. -/
theorem test_truncated_T14_to_T21 :
    [start 0x2000 0 [0xA9], start 0x2000 0 [0x4C], start 0x2000 0 [0x4C, 0x7F],
      start 0x2003 3 [0xEA, 0xEA, 0xEA, 0x20, 0x00], start 0x2001 1 [0xEA, 0x01]].map
        (fun s => (decoded s).map fun p => (p.1.operand, p.2, okText (asHexStr p.1))) =
    [(some 0x0000, 2, some "A9 00   ".toList), (some 0x0000, 3, some "4C 00 00".toList),
      (some 0x007F, 3, some "4C 7F 00".toList), (some 0x0000, 6, some "20 00 00".toList),
      (some 0x0000, 3, some "01 00   ".toList)].map some := by
  rfl

/-- The three faults T23, T24 and T25. -/
theorem test_faults_T23_to_T25 :
    [start 0x0000 0 [], start 0x0000 2 [0xEA, 0xEA], start 0x0000 3 [0x20, 0x00]].map faultedAt =
      [some 0, some 2, some 3] := by
  rfl

/-- T25 follows a truncated decode: the second of two decodes of `[0x20, 0x00]` faults at cursor 3. -/
theorem test_run_T25 : Host.Core.run core 2 (start 0x0000 0 [0x20, 0x00]) = .fault (.decodePrecondition 3) := by rfl

/-! ### The buffer, the table's words and the caller -/

theorem test_memory_canonical : (Memory.ofBytes [0x00, 0xAD, 0x00]).cells = [(1, 0xAD)] := by decide

theorem test_memory_put_removes : ((Memory.ofBytes [0x01, 0xAD]).put 1 0x00).cells = [(0, 0x01)] := by decide

theorem test_memory_not_wf_order : ({ length := 4, cells := [(2, 1), (1, 1)] } : Memory).wf = false := by decide

theorem test_memory_not_wf_zero : ({ length := 4, cells := [(2, 0)] } : Memory).wf = false := by decide

theorem test_memory_not_wf_beyond : ({ length := 2, cells := [(2, 1)] } : Memory).wf = false := by decide

/-- Bit 0 is the least significant bit of the opcode byte; a row without operand bits has zero operand bytes. -/
theorem test_decodeTableWord : [decodeTableWord 24 0x1234AD, decodeTableWord 16 0x44A9, decodeTableWord 8 0xAD,
    decodeTableWord 8 0xFFAD] = [some (.ldaAbsAD 0x34 0x12), some (.ldaImmA9 0x44), some (.ldaAbsAD 0x00 0x00),
      some (.ldaAbsAD 0x00 0x00)] := by
  rfl

theorem test_withFetchWord_first : step (State.reset.withFetchWord 24 0x1234AD) =
    exec (.ldaAbsAD 0x34 0x12) (State.reset.withFetchWord 24 0x1234AD) := by
  rfl

/-- 92 D26: the assumed caller's target address wraps. -/
theorem test_callerNext_wraps : (callerNext (start 0xFFFE 0 []) (start 0xFFFE 3 [])).targetAddress = 0x0001 := by decide

/-! ### Witnesses: for each statement with hypotheses, a state and operands that meet them -/

/-- Two instructions, `LDA #$44` and `JMP ($0201)`. -/
def two : List Byte := [0xA9, 0x44, 0x6C, 0x01, 0x02]

/-- A buffer that holds an encoding, whole or cut short, in the terms of the rows' statements. -/
theorem holds_one {s : State} {b v : Byte} (h : s.cursor < s.mem.length) (hb : s.mem.opcodeByte s.cursor = b)
    (h0 : s.mem.readByte (s.cursor + 1) = zeroExtended v) : BufferHolds s b [v] := by
  refine ⟨h, hb, fun k w hk => ?_⟩
  match k with
  | 0 => cases hk; exact h0
  | k + 1 => cases hk

theorem holds_two {s : State} {b v w : Byte} (h : s.cursor < s.mem.length) (hb : s.mem.opcodeByte s.cursor = b)
    (h0 : s.mem.readByte (s.cursor + 1) = zeroExtended v) (h1 : s.mem.readByte (s.cursor + 2) = zeroExtended w) :
    BufferHolds s b [v, w] := by
  refine ⟨h, hb, fun k x hk => ?_⟩
  match k with
  | 0 => cases hk; exact h0
  | 1 => cases hk; exact h1
  | k + 2 => cases hk

theorem holds_none {s : State} {b : Byte} (h : s.cursor < s.mem.length) (hb : s.mem.opcodeByte s.cursor = b) :
    BufferHolds s b [] := ⟨h, hb, fun k v hk => by cases hk⟩

/-! The rows: a state whose buffer holds the encoding, one that holds it cut short, and one at the buffer's end. -/

theorem witness_LoadAndStoreRows :
    BufferHolds (start 0 0 [0xAD, 0x34, 0x12]) 0xAD [0x34, 0x12] ∧ BufferHolds (start 0 0 [0xAD]) 0xAD [0x00, 0x00] ∧
      (start 0 1 [0xAD]).mem.length ≤ (start 0 1 [0xAD]).cursor :=
  ⟨holds_two (by decide) rfl rfl rfl, holds_two (by decide) rfl rfl rfl, by decide⟩

theorem witness_ArithmeticAndLogicRows :
    BufferHolds (start 0 0 [0x69, 0xFF]) 0x69 [0xFF] ∧ BufferHolds (start 0 0 [0x69]) 0x69 [0x00] ∧
      (start 0 2 [0x69, 0xFF]).mem.length ≤ (start 0 2 [0x69, 0xFF]).cursor :=
  ⟨holds_one (by decide) rfl rfl, holds_one (by decide) rfl rfl, by decide⟩

theorem witness_CompareAndIncrementRows :
    BufferHolds (start 0 1 [0xEA, 0xC9, 0x80]) 0xC9 [0x80] ∧ BufferHolds (start 0 0 [0xE8]) 0xE8 [] ∧
      (start 0 2 [0xC9, 0x80]).mem.length ≤ (start 0 2 [0xC9, 0x80]).cursor :=
  ⟨holds_one (by decide) rfl rfl, holds_none (by decide) rfl, by decide⟩

theorem witness_ShiftAndRotateRows :
    BufferHolds (start 0 0 [0x0A]) 0x0A [] ∧ BufferHolds (start 0 0 [0x1E, 0xFF]) 0x1E [0xFF, 0x00] ∧
      (start 0 1 [0x0A]).mem.length ≤ (start 0 1 [0x0A]).cursor :=
  ⟨holds_none (by decide) rfl, holds_two (by decide) rfl rfl rfl, by decide⟩

theorem witness_BranchRows :
    BufferHolds (start 0xFFFE 0 [0xF0, 0x80]) 0xF0 [0x80] ∧ BufferHolds (start 0xFFFE 0 [0xF0]) 0xF0 [0x00] ∧
      (start 0 2 [0xF0, 0x80]).mem.length ≤ (start 0 2 [0xF0, 0x80]).cursor :=
  ⟨holds_one (by decide) rfl rfl, holds_one (by decide) rfl rfl, by decide⟩

theorem witness_JumpReturnAndNopRows :
    BufferHolds (start 0 2 two) 0x6C [0x01, 0x02] ∧ BufferHolds (start 0 0 [0x60]) 0x60 [] ∧
      (start 0 5 two).mem.length ≤ (start 0 5 two).cursor :=
  ⟨holds_two (by decide) rfl rfl rfl, holds_none (by decide) rfl, by decide⟩

theorem witness_StackAndTransferRows : BufferHolds (start 0 0 [0x48]) 0x48 [] ∧
      (start 0 1 [0x48]).mem.length ≤ (start 0 1 [0x48]).cursor :=
  ⟨holds_none (by decide) rfl, by decide⟩

theorem witness_FlagInstructionRows : BufferHolds (start 0 0 [0x18]) 0x18 [] ∧
      (start 0 1 [0x18]).mem.length ≤ (start 0 1 [0x18]).cursor :=
  ⟨holds_none (by decide) rfl, by decide⟩

theorem witness_UndocumentedReadModifyWriteRows :
    BufferHolds (start 0 0 [0x0F, 0x01]) 0x0F [0x01, 0x00] ∧ BufferHolds (start 0 0 [0x07, 0xFF]) 0x07 [0xFF] ∧
      (start 0 2 [0x07, 0xFF]).mem.length ≤ (start 0 2 [0x07, 0xFF]).cursor :=
  ⟨holds_two (by decide) rfl rfl rfl, holds_one (by decide) rfl rfl, by decide⟩

theorem witness_UndocumentedOtherRows :
    BufferHolds (start 0 0 [0x4B, 0x0F]) 0x4B [0x0F] ∧ BufferHolds (start 0 0 [0x9F, 0x00, 0xFF]) 0x9F [0x00, 0xFF] ∧
      (start 0 2 [0x4B, 0x0F]).mem.length ≤ (start 0 2 [0x4B, 0x0F]).cursor :=
  ⟨holds_one (by decide) rfl rfl, holds_two (by decide) rfl rfl rfl, by decide⟩

theorem witness_HaltAndDuplicateRows :
    BufferHolds (start 0 0 [0x02, 0xEA]) 0x02 [] ∧ BufferHolds (start 0 0 [0xEB, 0x01]) 0xEB [0x01] ∧
      (start 0 1 [0x02]).mem.length ≤ (start 0 1 [0x02]).cursor :=
  ⟨holds_none (by decide) rfl, holds_one (by decide) rfl rfl, by decide⟩

/-! Encoding and decoding. -/

/-- At the boundary: exactly the bytes of the instruction, for each format. -/
theorem witness_EveryOpcodeByteDecodes :
    (encode .nopImpEA).length = ([] : List Byte).length + 1 ∧ (encode (.ldaImmA9 0x44)).length = [(0x44 : Byte)].length + 1 ∧
      (encode (.jmpInd6C 0x01 0x02)).length = [(0x01 : Byte), 0x02].length + 1 := by
  decide

theorem witness_LengthDependsOnOpcodeOnly :
    decode [0x6C, 0xFF, 0xFF, 0xFF] = .ok (.jmpInd6C 0xFF 0xFF, [0xFF]) ∧ decode [0x6C] = .ok (.jmpInd6C 0x00 0x00, []) :=
  ⟨rfl, rfl⟩

theorem witness_StepRunsDecodedInstruction :
    decode ((start 0 2 two).mem.bytesFrom 2 Config.maxInstrBytes) = .ok (.jmpInd6C 0x01 0x02, []) ∧
      decode ((start 0 4 two).mem.bytesFrom 4 Config.maxInstrBytes) = .ok (.hltImp02, []) :=
  ⟨rfl, rfl⟩

theorem witness_StepsRunConsecutiveEncodings :
    BufferHolds (start 0 0 two) 0xA9 [0x44] ∧ BufferHolds (start 0 2 two) 0x6C [0x01, 0x02] ∧
      encode (.ldaImmA9 0x44) = [0xA9, 0x44] ∧ encode (.jmpInd6C 0x01 0x02) = [0x6C, 0x01, 0x02] :=
  ⟨holds_one (by decide) rfl rfl, holds_two (by decide) rfl rfl rfl, rfl, rfl⟩

theorem witness_EncodedSequenceDecodesInOrder :
    (start 0 0 two).mem = Memory.ofBytes ([Instr.ldaImmA9 0x44, .jmpInd6C 0x01 0x02].map encode).flatten ∧
      (start 0 0 two).cursor = 0 ∧ [Instr.ldaImmA9 0x44, .jmpInd6C 0x01 0x02] = [] ++ .ldaImmA9 0x44 :: [.jmpInd6C 0x01 0x02] ∧
      [Instr.ldaImmA9 0x44, .jmpInd6C 0x01 0x02] = [.ldaImmA9 0x44] ++ .jmpInd6C 0x01 0x02 :: [] :=
  ⟨rfl, rfl, rfl, rfl⟩

theorem witness_FetchWordRunsTableWord :
    State.reset.mem.wf = true ∧ (start 0 2 two).mem.wf = true ∧ decodeTableWord 8 0xEA = some .nopImpEA ∧
      decodeTableWord 24 0xFFFF6C = some (.jmpInd6C 0xFF 0xFF) :=
  ⟨rfl, rfl, rfl, rfl⟩

/-! The decode transaction. -/

/-- The last byte of the buffer may be decoded. -/
theorem witness_EveryInstructionCompletes : (start 0 4 two).mayDecode := show 4 < 5 by decide

theorem witness_DecodeFrame : ∃ t, exec (.jmpInd6C 0x01 0x02) (start 0 2 two) = .next t := ⟨_, rfl⟩

theorem witness_CursorAdvance : (∃ t, step (start 0 0 [0xEA]) = .next t ∧ t.cursor = 1) ∧
    (∃ t, step (start 0 0 [0xA9]) = .next t ∧ t.cursor = 2) ∧ ∃ t, step (start 0 0 [0x6C]) = .next t ∧ t.cursor = 3 :=
  ⟨⟨_, rfl, rfl⟩, ⟨_, rfl, rfl⟩, ⟨_, rfl, rfl⟩⟩

/-- One decode for each kind of operand. -/
theorem witness_OperandFieldFromBuffer :
    (∃ t r, step (start 0 0 [0x0A]) = .next t ∧ t.record = some r ∧ r.operand = none) ∧
    (∃ t r, step (start 0 0 [0xA9, 0xFF]) = .next t ∧ t.record = some r ∧ r.operand = some 0x00FF) ∧
    (∃ t r, step (start 0 0 [0xAD, 0x34, 0x12]) = .next t ∧ t.record = some r ∧ r.operand = some 0x1234) :=
  ⟨⟨_, _, rfl, rfl, rfl⟩, ⟨_, _, rfl, rfl, rfl⟩, ⟨_, _, rfl, rfl, rfl⟩⟩

/-- Both clauses, and the first for one and for two operand bytes. -/
theorem witness_TruncatedDecodeReadsZero :
    (∃ t r, step (start 0 0 [0xA9]) = .next t ∧ t.record = some r ∧ operandCount r.addressingMode = 1) ∧
    (∃ t r, step (start 0 0 [0xAD]) = .next t ∧ t.record = some r ∧ operandCount r.addressingMode = 2) ∧
    (∃ t r, step (start 0 0 [0xAD, 0x7F]) = .next t ∧ t.record = some r ∧ operandCount r.addressingMode = 2) ∧
    (start 0 0 [0xA9]).mem.length ≤ (start 0 0 [0xA9]).cursor + 1 ∧
    (start 0 0 [0xAD, 0x7F]).mem.length = (start 0 0 [0xAD, 0x7F]).cursor + 2 :=
  ⟨⟨_, _, rfl, rfl, rfl⟩, ⟨_, _, rfl, rfl, rfl⟩, ⟨_, _, rfl, rfl, rfl⟩, by decide, by decide⟩

/-- Two decodes of one opcode byte: at other cursors and addresses, and with equal and with other operand bytes. -/
theorem witness_FieldsFixedByOpcodeByte :
    (∃ t r, step (start 0x1000 0 [0xA9, 0x44]) = .next t ∧ t.record = some r) ∧
    (∃ t r, step (start 0x2000 1 [0xEA, 0xA9, 0x44]) = .next t ∧ t.record = some r) ∧
    (∃ t r, step (start 0x2000 0 [0xA9, 0x45]) = .next t ∧ t.record = some r) ∧
    (start 0x1000 0 [0xA9, 0x44]).mem.opcodeByte 0 = (start 0x2000 1 [0xEA, 0xA9, 0x44]).mem.opcodeByte 1 ∧
    (start 0x1000 0 [0xA9, 0x44]).mem.readByte 1 = (start 0x2000 1 [0xEA, 0xA9, 0x44]).mem.readByte 2 ∧
    (start 0x1000 0 [0xA9, 0x44]).mem.readByte 2 = (start 0x2000 1 [0xEA, 0xA9, 0x44]).mem.readByte 3 :=
  ⟨⟨_, _, rfl, rfl⟩, ⟨_, _, rfl, rfl⟩, ⟨_, _, rfl, rfl⟩, rfl, rfl, rfl⟩

theorem witness_DecodeIsRelocatable :
    BufferHolds (start 0x1000 0 [0xAD, 0x34, 0x12]) 0xAD [0x34, 0x12] ∧
      BufferHolds (start 0xFFFF 1 [0xEA, 0xAD, 0x34, 0x12, 0xEA]) 0xAD [0x34, 0x12] :=
  ⟨holds_two (by decide) rfl rfl rfl, holds_two (by decide) rfl rfl rfl⟩

/-- Each clause: no operand, one operand byte at its greatest value, an extra cycle and none, an illegal byte. -/
theorem witness_DecodedRecordRelations :
    (∃ t r, step (start 0 0 [0x02]) = .next t ∧ t.record = some r ∧ r.operand = none ∧ r.illegal = true) ∧
    (∃ t r, step (start 0 0 [0x90, 0xFF]) = .next t ∧ t.record = some r ∧ operandCount r.addressingMode = 1 ∧
      r.extraCycle = true) ∧
    (∃ t r, step (start 0 0 [0x9D]) = .next t ∧ t.record = some r ∧ r.extraCycle = false ∧ r.illegal = false) :=
  ⟨⟨_, _, rfl, rfl, rfl, rfl⟩, ⟨_, _, rfl, rfl, rfl, rfl⟩, ⟨_, _, rfl, rfl, rfl, rfl⟩⟩

/-! The classifiers and resolvers. -/

theorem witness_IllegalIffUndocumentedByte :
    (∃ t r, step (start 0 0 [0xE9]) = .next t ∧ t.record = some r ∧ r.illegal = false) ∧
    (∃ t r, step (start 0 0 [0xEB]) = .next t ∧ t.record = some r ∧ r.illegal = true) :=
  ⟨⟨_, _, rfl, rfl, rfl⟩, ⟨_, _, rfl, rfl, rfl⟩⟩

theorem witness_PageCrossBooleanByMnemonic :
    (∃ t r, step (start 0 0 [0xB1]) = .next t ∧ t.record = some r ∧ carried r.addressingMode = some true) ∧
    (∃ t r, step (start 0 0 [0x91]) = .next t ∧ t.record = some r ∧ carried r.addressingMode = some false) :=
  ⟨⟨_, _, rfl, rfl, rfl⟩, ⟨_, _, rfl, rfl, rfl⟩⟩

/-- The accumulator form, an indexed form, and a form that touches nothing. -/
theorem witness_RegisterSetsByRegister :
    (∃ t r, step (start 0 0 [0x0A]) = .next t ∧ t.record = some r ∧ r.registersWritten = some (regs [.A])) ∧
    (∃ t r, step (start 0 0 [0xB7]) = .next t ∧ t.record = some r ∧ r.registersRead = some (regs [.Y])) ∧
    (∃ t r, step (start 0 0 [0x00]) = .next t ∧ t.record = some r ∧ r.registersRead = none) :=
  ⟨⟨_, _, rfl, rfl, rfl⟩, ⟨_, _, rfl, rfl, rfl⟩, ⟨_, _, rfl, rfl, rfl⟩⟩

theorem witness_AffectedFlagsByFlag :
    (∃ t r, step (start 0 0 [0x28]) = .next t ∧ t.record = some r ∧
      r.affectedFlags = some (flags [.N, .V, .B, .D, .I, .Z, .C])) ∧
    (∃ t r, step (start 0 0 [0x9A]) = .next t ∧ t.record = some r ∧ r.affectedFlags = none) :=
  ⟨⟨_, _, rfl, rfl, rfl⟩, ⟨_, _, rfl, rfl, rfl⟩⟩

/-! The buffer. -/

/-- The word within the buffer, the word cut in half, and the word beyond the end. -/
theorem witness_ReadWordLittleEndian : (0 + 1 < [(0x34 : Byte), 0x12].length) ∧ (1 + 1 = [(0x34 : Byte), 0x12].length) ∧
    [(0x34 : Byte), 0x12].length ≤ 2 := by
  decide

/-- After a decode, another byte at the cursor and at the two places after it; the buffer may grow. -/
theorem witness_ChangedBufferIsSeen : ∃ t, (start 0 0 two).mem.wf = true ∧ step (start 0 0 two) = .next t ∧
    (∃ u r, step { t with mem := t.mem.put (t.cursor + 0) 0x00 } = .next u ∧ u.record = some r ∧
      r.opcode.rawByte = 0x00) ∧
    (∃ u r, step { t with mem := t.mem.put (t.cursor + 1) 0xFF } = .next u ∧ u.record = some r ∧
      operandCount r.addressingMode ≠ 0) ∧
    (∃ u r, step { t with mem := t.mem.put (t.cursor + 2) 0xFF } = .next u ∧ u.record = some r ∧
      operandCount r.addressingMode = 2) :=
  ⟨_, rfl, rfl, ⟨_, _, rfl, rfl, rfl⟩, ⟨_, _, rfl, rfl, by decide⟩, ⟨_, _, rfl, rfl, rfl⟩⟩

/-! The fault. -/

/-- Both sides of the equivalence, at the last byte and at the end. -/
theorem witness_FaultExactlyAtOrPastTheEnd : step (start 0 5 two) = .fault (.decodePrecondition 5) ∧
    (∃ t, step (start 0 4 two) = .next t) ∧ step State.reset = .fault (.decodePrecondition 0) :=
  ⟨rfl, ⟨_, rfl⟩, rfl⟩

/-- Another target address, another record, other bytes and a shorter buffer. -/
theorem witness_FaultDependsOnCursorAndLength : step (start 0 5 two) = .fault (.decodePrecondition 5) ∧
    ({ start 0xFFFF 5 [0xEA] with record := some goodRecord } : State).cursor = (start 0 5 two).cursor ∧
    ({ start 0xFFFF 5 [0xEA] with record := some goodRecord } : State).mem.length ≤ (start 0 5 two).mem.length :=
  ⟨rfl, rfl, by decide⟩

/-- A cursor within the buffer, and one at its end. -/
theorem witness_RepeatedDecodingReachesTheEnd :
    (start 0 0 two).cursor ≤ (start 0 0 two).mem.length ∧ (start 0 5 two).cursor ≤ (start 0 5 two).mem.length := by
  decide

/-! The invariant and the caller. -/

theorem witness_StepKeepsInvariant : (start 0 0 two).Inv ∧ ∃ t, step (start 0 0 two) = .next t :=
  ⟨⟨rfl, fun r h => by cases h⟩, ⟨_, rfl⟩⟩

/-- The target address wraps between the two decodes. -/
theorem witness_AssumedCallerKeepsOrigin :
    (start 0xFFFF 0 two).targetAddress = BitVec.ofNat 16 (0xFFFF + (start 0xFFFF 0 two).cursor) ∧
      ∃ t, step (start 0xFFFF 0 two) = .next t :=
  ⟨rfl, ⟨_, rfl⟩⟩

/-! The formatter. -/

theorem witness_DecodedRecordsAreFormatted : ∃ t r, step (start 0 0 two) = .next t ∧ t.record = some r :=
  ⟨_, _, rfl, rfl⟩

theorem not_produced {r : Record} (h : decodable r = false) : ¬ Produced r := by
  rintro ⟨s, t, hs, hr⟩
  obtain ⟨_, rfl⟩ := step_next hs
  cases hr
  rw [decodedRecord_decodable] at h
  cases h

/-- The record of `[0x90, 0x80]` at 0xFFFF, written out. -/
def relativeRecord : Record :=
  { opcode := { mnemonic := .BCC, rawByte := 0x90 }, addressingMode := .relative, address := 0xFFFF, cycles := 2
    operand := some 0x0080, extraCycle := true, registersRead := none, registersWritten := none, affectedFlags := none
    illegal := false }

/-- Produced, and produced with a target; then, for each clause, a record that no decode gives: LDA with the raw byte 0x00,
a relative record that breaks R108(a), R108(b) or R108(c), and an operand at the width's boundary. -/
theorem witness_FormatterRefusesOutsideDomain : Produced goodRecord ∧ Produced relativeRecord ∧
    ¬ Produced { goodRecord with opcode := { mnemonic := .LDA, rawByte := 0x00 } } ∧
    ¬ Produced { relativeRecord with operand := none } ∧ ¬ Produced { relativeRecord with operand := some 0x0100 } ∧
    ¬ Produced { relativeRecord with extraCycle := false } ∧ Produced { relativeRecord with operand := some 0x00FF } :=
  ⟨⟨start 0x1000 0 [0xB9, 0x34, 0x12], _, rfl, rfl⟩, ⟨start 0xFFFF 0 [0x90, 0x80], _, rfl, rfl⟩, not_produced (by decide),
    not_produced (by decide), not_produced (by decide), not_produced (by decide),
    ⟨start 0xFFFF 0 [0x90, 0xFF], _, rfl, rfl⟩⟩

/-- Records that no decode gives have no text (44_formatter.md R239, 92 D24, 93 U7). -/
theorem test_formatter_refuses :
    [{ goodRecord with opcode := { mnemonic := .LDA, rawByte := 0x00 } }, { relativeRecord with extraCycle := false },
      { goodRecord with cycles := 5 }, { goodRecord with registersRead := none }, { goodRecord with operand := none },
      { goodRecord with illegal := true }, { goodRecord with addressingMode := .absoluteIndexedX true }].map
        (fun r => (okText (asHexStr r), okText (asStr r), okText (display r))) = List.replicate 7 (none, none, none) := by
  rfl

theorem test_relTarget_refuses : relTarget { relativeRecord with operand := none } = some (.error .formatOutsideDomain) ∧
    relTarget { relativeRecord with operand := some 0x0100 } = some (.error .formatOutsideDomain) ∧
    relTarget relativeRecord = some (.ok 0xFF81) ∧ relTarget goodRecord = none :=
  ⟨rfl, rfl, rfl, rfl⟩

theorem witness_HexStringShowsEncoding : ∃ t r, exec (.jmpInd6C 0x01 0x02) (start 0 2 two) = .next t ∧
    t.record = some r ∧ encode (.jmpInd6C 0x01 0x02) = [0x6C, 0x01, 0x02] :=
  ⟨_, _, rfl, rfl, rfl⟩

theorem witness_HexStringHasEightCharacters : okText (asHexStr goodRecord) = some "B9 34 12".toList ∧
    (∃ t r, exec .nopImpEA (start 0 0 [0xEA]) = .next t ∧ t.record = some r) ∧
    (∃ t r, exec (.oraZp05 0x0B) (start 0 0 [0x05, 0x0B]) = .next t ∧ t.record = some r) ∧
    (∃ t r, exec (.jmpInd6C 0x01 0x02) (start 0 0 [0x6C, 0x01, 0x02]) = .next t ∧ t.record = some r) :=
  ⟨rfl, ⟨_, _, rfl, rfl⟩, ⟨_, _, rfl, rfl⟩, ⟨_, _, rfl, rfl⟩⟩

/-- One decode for each of the 13 modes. -/
theorem witness_OperandTextByMode :
    ([0xEA, 0x0A, 0xA9, 0xA5, 0xB5, 0xB6, 0xAD, 0xBD, 0xB9, 0x6C, 0xA1, 0xB1, 0x90] : List Byte).map
        (fun b => (decoded (start 0 0 [b, 0x34, 0x12])).map fun p => p.1.addressingMode) =
      [.implied, .accumulator, .immediate, .zeropage, .zeropageIndexedX, .zeropageIndexedY, .absolute,
        .absoluteIndexedX true, .absoluteIndexedY true, .indirect, .indexedIndirectX, .indirectIndexedY true,
        .relative].map some := by
  rfl

/-- The record of `[0x1A]` and of `[0xEA]` at 0, written out: they differ in the raw byte and the illegal mark. -/
def nopRecord (raw : Byte) (illegal : Bool) : Record :=
  { opcode := { mnemonic := .NOP, rawByte := raw }, addressingMode := .implied, address := 0, cycles := 2
    operand := none, extraCycle := false, registersRead := none, registersWritten := none, affectedFlags := none
    illegal := illegal }

theorem witness_TextIgnoresUnrenderedFields :
    [nopRecord 0xEA false, nopRecord 0x1A true].map (fun r => [okText (asStr r), okText (asHexStr r), okText (display r)]) =
      [["NOP", "EA      ", "$0000: EA       NOP"], ["NOP", "1A      ", "$0000: 1A       NOP"]].map
        (·.map fun x => some x.toList) := by
  rfl

theorem witness_DisplayLineIsComposed :
    asHexStr goodRecord = .ok ['B', '9', ' ', '3', '4', ' ', '1', '2'] ∧
      asStr goodRecord = .ok ['L', 'D', 'A', ' ', '$', '1', '2', '3', '4', ',', 'Y'] :=
  ⟨rfl, rfl⟩

/-- A relative decode at each end of the offset's range, a relative record that no decode gives, and a record that is not
relative. -/
theorem witness_RelativeTargetWraps :
    (∃ t r, step (start 0 0 [0x90, 0x80]) = .next t ∧ t.record = some r ∧ r.addressingMode = .relative) ∧
    (∃ t r, step (start 0xFFFF 0 [0x90, 0x7F]) = .next t ∧ t.record = some r ∧ r.addressingMode = .relative) ∧
    ({ relativeRecord with operand := none }.addressingMode = .relative ∧
      ¬ Produced { relativeRecord with operand := none }) ∧ goodRecord.addressingMode ≠ .relative :=
  ⟨⟨_, _, rfl, rfl, rfl⟩, ⟨_, _, rfl, rfl, rfl⟩, ⟨rfl, not_produced (by decide)⟩, by decide⟩

theorem witness_OutputsAreAscii : okText (display goodRecord) = some "$1000: B9 34 12 LDA $1234,Y".toList := by rfl

end Sys2Proof.Tests
end

section
/-!
PROOFS. The record as state: where its operand comes from (10_state.md R28), and that no decode reads the record latched
before it (R33).
-/

namespace Sys2Proof.Machine

open Sys2Proof.Claims

/-! ### Bytes and words -/

/-- A read of the buffer is a zero-extended byte (20_memory.md R41), so its low byte is all there is to it. -/
@[simp] theorem zext16_lowByte_readByte (m : Memory) (i : Nat) : zext16 (lowByte (m.readByte i)) = m.readByte i := by
  by_cases hi : i < m.length
  · rw [Memory.readByte_of_lt hi, lowByte_zext16]
  · rw [Memory.readByte_of_ge (by omega)]
    decide

theorem assembleWord_eq_littleEndian (ll hh : Byte) : assembleWord ll hh = littleEndian ll hh := by
  apply BitVec.eq_of_toNat_eq
  have hlo := ll.isLt
  have hhi := hh.isLt
  rw [assembleWord_toNat, littleEndian, BitVec.toNat_ofNat, Nat.mod_eq_of_lt (by omega)]

/-! ### The operand by the mode -/

theorem operandCount_eq_zero_iff {mode : AddressingMode} :
    operandCount mode = 0 ↔ mode = .implied ∨ mode = .accumulator := by
  cases mode <;> simp [operandCount]

theorem operandCount_eq_one_iff {mode : AddressingMode} :
    operandCount mode = 1 ↔ mode.hasOneByteOperand = true := by
  cases mode <;> simp [operandCount, AddressingMode.hasOneByteOperand]

/-- The operand value by the number of operand bytes, in the words of 30_encoding.md R61. -/
theorem operandOfCount_eq_ite (ll hh : Byte) (n : Nat) : operandOfCount ll hh n =
    if n = 0 then none else if n = 1 then some (zext16 ll) else some (littleEndian ll hh) := by
  match n with
  | 0 => rfl
  | 1 => rfl
  | _ + 2 => simp [operandOfCount, assembleWord_eq_littleEndian]

theorem decodedRecord_operand (s : State) : (decodedRecord s).operand =
    operandOfCount (lowByte (s.mem.readByte (s.cursor + 1))) (lowByte (s.mem.readByte (s.cursor + 2)))
      (operandCount (decodedRecord s).addressingMode) := rfl

/-- The record in the latch after a step is the one decoded from the state before it. -/
theorem record_of_step {s t : State} {r : Record} (h : step s = .next t) (hr : t.record = some r) :
    r = decodedRecord s := by
  obtain ⟨-, rfl⟩ := step_next h
  exact (Option.some.inj hr).symm

/-- Settles O26: the operand is fixed by the mode's operand byte count, and a byte read from the buffer is its own
zero-extension. -/
theorem operandFieldFromBuffer : Obligations.OperandFieldFromBuffer := by
  intro s t r h hr
  obtain rfl := record_of_step h hr
  rw [decodedRecord_operand, operandOfCount_eq_ite, zext16_lowByte_readByte]
  simp only [operandCount_eq_zero_iff, operandCount_eq_one_iff]

/-! ### The record latched before a decode -/

section LatchedRecord

variable (s : State) (old : Option Record)

@[simp] theorem decodedRecord_withRecord : decodedRecord { s with record := old } = decodedRecord s := rfl

@[simp] theorem decodedCount_withRecord : decodedCount { s with record := old } = decodedCount s := rfl

/-- Completing a decode overwrites the latch. -/
@[simp] theorem State.complete_withRecord (r : Record) (c : Nat) :
    State.complete { s with record := old } r c = s.complete r c := rfl

theorem step_withRecord : step { s with record := old } = step s := by
  by_cases hc : s.cursor < s.mem.length
  · rw [step_eq_next hc, step_eq_next (s := { s with record := old }) hc, decodedRecord_withRecord,
      decodedCount_withRecord, State.complete_withRecord]
  · have hge : s.mem.length ≤ s.cursor := by omega
    rw [step_of_ge hge, step_of_ge (s := { s with record := old }) hge]

end LatchedRecord

/-- Settles O29: within the buffer the completed decode reads the other fields and overwrites the latch; beyond it the
fault holds the cursor alone. -/
theorem decodeIgnoresLatchedRecord : Obligations.DecodeIgnoresLatchedRecord :=
  step_withRecord

end Sys2Proof.Machine
end

section
/-!
PROOFS. The buffer that holds a byte sequence: its length, and what `ReadByte` answers on it (20_memory.md R41).
-/

namespace Sys2Proof.Machine

open Sys2Proof.Claims

@[simp] theorem Memory.ofBytes_length (bytes : List Byte) : (Memory.ofBytes bytes).length = bytes.length := by
  rw [Memory.ofBytes, Memory.place_length]
  cases bytes with
  | nil => rfl
  | cons v rest => simp

theorem Memory.ofBytes_lookup {bytes : List Byte} {i : Nat} (h : i < bytes.length) :
    lookupCell (Memory.ofBytes bytes).cells i = bytes[i] := by
  have hplaced := Memory.place_lookup (m := { length := 0, cells := [] }) rfl 0 bytes h
  rwa [Nat.zero_add] at hplaced

/-- The model's widening and the claims' are written apart. -/
theorem zext16_eq_zeroExtended (v : Byte) : zext16 v = zeroExtended v := rfl

theorem Memory.readByte_ofBytes (bytes : List Byte) (i : Nat) :
    (Memory.ofBytes bytes).readByte i = if h : i < bytes.length then zeroExtended bytes[i] else 0 := by
  split
  case isTrue h =>
    rw [Memory.readByte_of_lt (by rwa [Memory.ofBytes_length]), Memory.ofBytes_lookup h, zext16_eq_zeroExtended]
  case isFalse h => exact Memory.readByte_of_ge (by rw [Memory.ofBytes_length]; omega)

/-- Settles O36: inside the sequence `ReadByte` widens the byte placed there; from its end on there is no byte to read. -/
theorem readByteOfByteSequence : Obligations.ReadByteOfByteSequence :=
  fun bytes i => ⟨Memory.ofBytes_length bytes, Memory.readByte_ofBytes bytes i⟩

end Sys2Proof.Machine
end

section
/-!
PROOFS. Decoding at an opcode byte: the byte alone selects the row (30_encoding.md R71) and with it how many bytes belong
to the instruction (R73); the encoder gives those bytes back.
-/

namespace Sys2Proof.Machine

/-! ### What a decode takes from the bytes -/

/-- How many operand bytes a format has (30_encoding.md R60). -/
def formOperandCount : Form → Nat
  | .f1 _ => 0
  | .f2 _ => 1
  | .f3 _ => 2

/-- The decoder's formats and table T256, two separate tables, agree on the operand byte count of every opcode byte. -/
theorem formOperandCount_form (b : Byte) : formOperandCount (form b) = operandCount (t256 b).mode := by
  revert b
  decide

/-- A decode gives the instruction of the opcode byte's format and drops the operand bytes of the row's mode. -/
theorem decode_cons_eq (b : Byte) (rest : List Byte) : decode (b :: rest) =
    .ok (formInstr (form b) (rest.headD 0) ((rest.drop 1).headD 0), rest.drop (operandCount (t256 b).mode)) := by
  rw [← formOperandCount_form, decode]
  cases form b <;> rfl

theorem decode_cons_ok {b : Byte} {rest after : List Byte} {i : Instr} (h : decode (b :: rest) = .ok (i, after)) :
    i = formInstr (form b) (rest.headD 0) ((rest.drop 1).headD 0) := by
  rw [decode_cons_eq] at h
  exact (congrArg Prod.fst (Except.ok.inj h)).symm

/-! ### What the encoder gives back -/

theorem encode_formInstr_length (b ll hh : Byte) :
    (encode (formInstr (form b) ll hh)).length = 1 + operandCount (t256 b).mode := by
  have hle : operandCount (t256 b).mode ≤ [ll, hh].length := operandCount_le _
  rw [encode_formInstr, List.length_cons, List.length_take_of_le hle, Nat.add_comm]

/-- Where enough bytes follow, no operand byte is one that the decoder filled in with zero. -/
theorem take_operandBytes {n : Nat} {rest : List Byte} (hn : n ≤ 2) (hrest : n ≤ rest.length) :
    [rest.headD 0, (rest.drop 1).headD 0].take n = rest.take n := by
  match n, rest with
  | 0, _ => rfl
  | 1, _ :: _ => rfl
  | 2, _ :: _ :: _ => rfl

/-- Settles O14: the format of the byte gives the instruction, its encoding is the byte and the operand bytes the decode
took, and the decode leaves the others. -/
theorem everyOpcodeByteDecodes : Obligations.EveryOpcodeByteDecodes := by
  intro b rest
  refine ⟨_, _, decode_cons_eq b rest, by rw [encode_formInstr]; rfl, fun henough => ?_⟩
  have hrest : operandCount (t256 b).mode ≤ rest.length := by
    rw [encode_formInstr_length] at henough
    omega
  rw [encode_formInstr, take_operandBytes (operandCount_le _) hrest, List.cons_append, List.take_append_drop]

/-- Settles O15: both instructions are of the byte's one format, whose encodings have one length. -/
theorem lengthDependsOnOpcodeOnly : Obligations.LengthDependsOnOpcodeOnly := by
  intro b r₁ r₂ x₁ x₂ i₁ i₂ h₁ h₂
  obtain rfl := decode_cons_ok h₁
  obtain rfl := decode_cons_ok h₂
  exact ⟨by rw [encode_formInstr_length, encode_formInstr_length], encode_formInstr_length _ _ _⟩

end Sys2Proof.Machine
end

section
/-!
PROOFS. The decode transaction: what the operand fetcher returns for each mode (40_decode.md R102), that a decode whose
operand bytes lie beyond the buffer completes with zeros for them (R103), and which record fields the opcode byte fixes
(R104).
-/

namespace Sys2Proof.Machine

open Sys2Proof.Claims

/-! ### The operand fetcher -/

/-- The mode's operand byte count and extra cycle say all that the fetcher returns. -/
theorem fetchOperand_eq (m : Memory) (mode : AddressingMode) (c : Nat) : fetchOperand m mode c =
    (operandOfCount (lowByte (m.readByte (c + 1))) (lowByte (m.readByte (c + 2))) (operandCount mode),
      extraCycle mode, c + 1 + operandCount mode) := by
  cases mode <;> simp [fetchOperand, Memory.readWordLE, operandCount, operandOfCount, extraCycle]

/-- Settles O21: a mode has no operand byte, one, which a read gives widened already, or two, low byte first. -/
theorem fetchOperandByMode : Obligations.FetchOperandByMode := by
  intro m c p
  simp only [fetchOperand_eq, operandCount, operandOfCount, extraCycle, zext16_lowByte_readByte,
    assembleWord_eq_littleEndian, and_self]

/-! ### Truncated buffers -/

theorem decodeTransaction_of_lt {s : State} (h : s.cursor < s.mem.length) :
    decodeTransaction s.targetAddress s.cursor s.mem =
      .next (decodedRecord s, s.cursor + 1 + decodedCount s) := by
  simp only [decodeTransaction, if_neg (Nat.not_le.2 h), fetchOperand_eq]
  rfl

theorem operandOfCount_two (ll hh : Byte) : operandOfCount ll hh 2 = some (assembleWord ll hh) := rfl

theorem operandOfCount_zero_zero {n : Nat} (hn : n ≠ 0) : operandOfCount 0 0 n = some 0 := by
  match n with
  | 1 => rfl
  | _ + 2 => exact congrArg some (assembleWord_zero 0)

theorem lowByte_readByte_of_ge {m : Memory} {i : Nat} (h : m.length ≤ i) : lowByte (m.readByte i) = 0 := by
  rw [Memory.readByte_of_ge h]
  rfl

theorem lowByte_readByte_of_lt {m : Memory} {i : Nat} (h : i < m.length) :
    lowByte (m.readByte i) = m.opcodeByte i := by
  rw [Memory.readByte_of_lt h, lowByte_zext16, Memory.opcodeByte]

theorem decodedRecord_operand_of_noOperandByte {s : State} (h : s.mem.length ≤ s.cursor + 1)
    (hn : operandCount (decodedRecord s).addressingMode ≠ 0) : (decodedRecord s).operand = some 0 := by
  rw [decodedRecord_operand, lowByte_readByte_of_ge h, lowByte_readByte_of_ge (by omega), operandOfCount_zero_zero hn]

theorem decodedRecord_operand_of_noHighByte {s : State} (h : s.mem.length = s.cursor + 2)
    (hn : operandCount (decodedRecord s).addressingMode = 2) :
    (decodedRecord s).operand = some (zeroExtended (s.mem.opcodeByte (s.cursor + 1))) := by
  rw [decodedRecord_operand, hn, lowByte_readByte_of_lt (by omega), lowByte_readByte_of_ge (by omega),
    operandOfCount_two, assembleWord_zero, zext16_eq_zeroExtended]

/-- Settles O27: the step and the transaction build one record, and a byte beyond the buffer's end reads as zero. -/
theorem truncatedDecodeReadsZero : Obligations.TruncatedDecodeReadsZero := fun s h =>
  ⟨s.complete (decodedRecord s) (s.cursor + 1 + decodedCount s), decodedRecord s, step_eq_next h, rfl,
    decodeTransaction_of_lt h, rfl, decodedRecord_operand_of_noOperandByte, decodedRecord_operand_of_noHighByte⟩

/-! ### The fields that the opcode byte fixes -/

/-- Decodes of one opcode byte differ in the address and the operand alone. -/
theorem decodedRecord_eq_of_opcodeByte_eq {s₁ s₂ : State}
    (hb : s₁.mem.opcodeByte s₁.cursor = s₂.mem.opcodeByte s₂.cursor) : decodedRecord s₁ =
      { decodedRecord s₂ with address := s₁.targetAddress, operand := (decodedRecord s₁).operand } := by
  simp only [decodedRecord, buildRecord, hb]

theorem decodedRecord_operand_eq {s₁ s₂ : State} (hb : s₁.mem.opcodeByte s₁.cursor = s₂.mem.opcodeByte s₂.cursor)
    (hlo : s₁.mem.readByte (s₁.cursor + 1) = s₂.mem.readByte (s₂.cursor + 1))
    (hhi : s₁.mem.readByte (s₁.cursor + 2) = s₂.mem.readByte (s₂.cursor + 2)) :
    (decodedRecord s₁).operand = (decodedRecord s₂).operand := by
  have hmode : (decodedRecord s₁).addressingMode = (decodedRecord s₂).addressingMode := by
    rw [decodedRecord_eq_of_opcodeByte_eq hb]
  rw [decodedRecord_operand, decodedRecord_operand, hmode, hlo, hhi]

/-- Settles O28: each step latches the decoded record; one opcode byte gives one row, and with it every field but the
address and the operand, and the row's mode says which of the two bytes after it make the operand. -/
theorem fieldsFixedByOpcodeByte : Obligations.FieldsFixedByOpcodeByte := by
  intro s₁ s₂ t₁ t₂ r₁ r₂ h₁ h₂ hr₁ hr₂ hb
  obtain rfl := record_of_step h₁ hr₁
  obtain rfl := record_of_step h₂ hr₂
  rw [decodedRecord_eq_of_opcodeByte_eq hb]
  exact ⟨rfl, rfl, rfl, rfl, rfl, rfl, rfl, rfl, rfl, decodedRecord_operand_eq hb⟩

end Sys2Proof.Machine
end

section
/-!
PROOFS. The hex string (44_formatter.md R232): the operand bytes of an encoding are as many as the mode of its opcode byte
has, and the operand field of the record gives them back in the order of the buffer.
-/

namespace Sys2Proof.Machine

open Sys2Proof.Claims

/-! ### The operand bytes of an encoding -/

/-- An encoding has the operand bytes that the mode of its opcode byte counts, and they make the instruction's operand. -/
theorem exists_operandBytes_of_encode {i : Instr} {b : Byte} {xs : List Byte} (he : encode i = b :: xs) :
    ∃ ll hh, xs = [ll, hh].take (operandCount (t256 b).mode) ∧
      operandOf i = operandOfCount ll hh (operandCount (t256 b).mode) := by
  obtain ⟨b', rest, he', hlen⟩ := Laws.Encoding.all i
  obtain ⟨rfl, rfl⟩ := List.cons.inj (he.symm.trans he')
  have hle := operandCount_le (t256 b).mode
  rw [operandOf, he, ← hlen]
  match xs with
  | [] => exact ⟨0, 0, rfl, rfl⟩
  | [ll] => exact ⟨ll, 0, rfl, rfl⟩
  | [ll, hh] => exact ⟨ll, hh, rfl, rfl⟩
  | _ :: _ :: _ :: _ =>
    simp only [List.length_cons] at hlen
    omega

/-- The record that `exec` latches is the row of the encoding's opcode byte, with the instruction's operand. -/
theorem record_of_exec {i : Instr} {s t : State} {r : Record} {b : Byte} {xs : List Byte} (h : exec i s = .next t)
    (hr : t.record = some r) (he : encode i = b :: xs) : r = buildRecord s.targetAddress b (t256 b).mnemonic
      (t256 b).mode (t256 b).cycles (operandOf i) := by
  have hb : opcodeByteOf i = b := by rw [opcodeByteOf, he, List.headD_cons]
  obtain ⟨-, rfl⟩ := exec_next h
  rw [← hb]
  exact (Option.some.inj hr).symm

/-! ### The rendering of those bytes -/

/-- A row of table T256 with operand bytes for an operand is in the formatter's domain (R239). -/
theorem decodable_buildRecord (a : Word) (b ll hh : Byte) :
    decodable (buildRecord a b (t256 b).mnemonic (t256 b).mode (t256 b).cycles
      (operandOfCount ll hh (operandCount (t256 b).mode))) = true :=
  decodable_iff.2 ⟨operandOk_operandOfCount rfl, rfl⟩

/-- The operand field takes the operand value apart into the bytes it was made of, low byte first, and fills up to six
characters. -/
theorem hexOperandField_eq_hexLine (b ll hh : Byte) (mode : AddressingMode) :
    hex2 b ++ hexOperandField mode ((operandOfCount ll hh (operandCount mode)).getD 0) =
      hexLine b ([ll, hh].take (operandCount mode)) := by
  rw [hexOperandField]
  match operandCount mode, operandCount_le mode with
  | 0, _ => rfl
  | 1, _ => simp [operandOfCount, hexLine, List.replicate]
  | 2, _ => simp [operandOfCount, hexLine]

/-- Settles O51: the latched record is the row of the encoding's opcode byte with the operand that the encoding's operand
bytes make, so it has a hex string, and the operand field shows those bytes. -/
theorem hexStringShowsEncoding : Obligations.HexStringShowsEncoding := by
  intro i s t r b xs h hr he
  obtain ⟨ll, hh, rfl, hoperand⟩ := exists_operandBytes_of_encode he
  obtain rfl := record_of_exec h hr he
  rw [hoperand, asHexStr, formatOn_of_decodable _ (decodable_buildRecord _ b ll hh)]
  exact congrArg Except.ok (hexOperandField_eq_hexLine b ll hh (t256 b).mode)

end Sys2Proof.Machine
end

section
/-!
PROOFS. The one fault, `DecodePrecondition` (60_exceptions.md R261): where a step raises it, and that a step has no other
outcome than the fault or a next state.
-/

namespace Sys2Proof.Machine

/-- What a step can do: complete within the buffer, or fault at or past its end. -/
theorem step_cases (s : State) :
    (s.cursor < s.mem.length ∧ step s = .next (s.complete (decodedRecord s) (s.cursor + 1 + decodedCount s))) ∨
      (s.mem.length ≤ s.cursor ∧ step s = .fault (.decodePrecondition s.cursor)) :=
  (Nat.lt_or_ge s.cursor s.mem.length).imp (fun h => ⟨h, step_eq_next h⟩) fun h => ⟨h, step_of_ge h⟩

/-- A step faults at or past the end of the buffer only, and with one fault only. -/
theorem step_fault_iff {s : State} {f : Fault} :
    step s = .fault f ↔ s.mem.length ≤ s.cursor ∧ f = .decodePrecondition s.cursor := by
  constructor
  · intro hf
    obtain ⟨-, hs⟩ | ⟨hge, hs⟩ := step_cases s
    · exact nomatch hs.symm.trans hf
    · exact ⟨hge, Host.Outcome.fault.inj (hf.symm.trans hs)⟩
  · rintro ⟨hge, rfl⟩
    exact step_of_ge hge

/-- No opcode byte is left without a meaning, so no step refuses. -/
theorem step_ne_refused (s : State) (r : Refusal) : step s ≠ .refused r := by
  intro hr
  obtain ⟨-, hs⟩ | ⟨-, hs⟩ := step_cases s
  · exact nomatch hs.symm.trans hr
  · exact nomatch hs.symm.trans hr

/-- Settles O39: within the buffer every step completes, and at or past its end every step raises the one fault. -/
theorem faultExactlyAtOrPastTheEnd : Obligations.FaultExactlyAtOrPastTheEnd :=
  fun s => ⟨fun _ => step_fault_iff, step_ne_refused s⟩

end Sys2Proof.Machine
end

section
/-!
PROOFS. Encodings in a buffer (30_encoding.md R60, R73; 20_memory.md R41): decoding undoes encoding, a step on a buffer
that holds an encoding at the cursor runs that instruction, and encodings one after another decode in order.
-/

namespace Sys2Proof.Machine

open Sys2Proof.Claims

/-! ### Decoding undoes encoding -/

/-- Every instruction is what the format of its opcode byte gives with its operand bytes. -/
theorem exists_eq_formInstr (i : Instr) : ∃ b ll hh, i = formInstr (form b) ll hh := by
  have hrow : ∀ b xs, encode i = b :: xs → formInstr (form b) (xs.headD 0) (xs.tail.headD 0) = i := by
    cases i <;> rintro _ _ ⟨⟩ <;> rfl
  obtain ⟨b, xs, he, -⟩ := Laws.Encoding.all i
  exact ⟨b, _, _, (hrow b xs he).symm⟩

theorem decode_encode_formInstr (b ll hh : Byte) (rest : List Byte) :
    decode (encode (formInstr (form b) ll hh) ++ rest) = .ok (formInstr (form b) ll hh, rest) := by
  rw [encode_formInstr, ← formOperandCount_form, List.cons_append, decode]
  cases form b <;> rfl

/-- Settles O13: an instruction is its opcode byte's format with operand bytes, and a format takes from the bytes as many
as its instructions encode to. -/
theorem decodeEncodeRoundTrip : Obligations.DecodeEncodeRoundTrip := by
  intro i rest
  obtain ⟨b, ll, hh, rfl⟩ := exists_eq_formInstr i
  exact decode_encode_formInstr b ll hh rest

/-- Settles O12: the decoder computes on these bytes. -/
theorem specBytesDecode : Obligations.SpecBytesDecode :=
  ⟨rfl, rfl, rfl, rfl, rfl, rfl, rfl, rfl⟩

/-! ### A step on a buffer that holds an encoding -/

/-- A format's instruction depends on no more bytes than the format has. -/
theorem formInstr_congr {f : Form} {ll hh ll' hh' : Byte}
    (h : [ll, hh].take (formOperandCount f) = [ll', hh'].take (formOperandCount f)) :
    formInstr f ll hh = formInstr f ll' hh' := by
  cases f with
  | f1 i => rfl
  | f2 mk =>
    obtain rfl : ll = ll' := by simpa [formOperandCount] using h
    rfl
  | f3 mk =>
    obtain ⟨rfl, rfl⟩ : ll = ll' ∧ hh = hh' := by simpa [formOperandCount] using h
    rfl

/-- The bytes that a buffer holds after the opcode byte are those that a step reads there. -/
theorem take_readBytes_of_bufferHolds {s : State} {b : Byte} {xs : List Byte} (h : BufferHolds s b xs)
    (hlen : xs.length ≤ 2) :
    [lowByte (s.mem.readByte (s.cursor + 1)), lowByte (s.mem.readByte (s.cursor + 2))].take xs.length = xs := by
  obtain ⟨-, -, hread⟩ := h
  have hlow : ∀ k v, xs[k]? = some v → lowByte (s.mem.readByte (s.cursor + 1 + k)) = v := fun k v hk => by
    rw [hread k v hk, ← zext16_eq_zeroExtended, lowByte_zext16]
  match xs, hlen with
  | [], _ => rfl
  | [v], _ => exact congrArg ([·]) (hlow 0 v rfl)
  | [v, w], _ => exact congrArg₂ ([·, ·]) (hlow 0 v rfl) (hlow 1 w rfl)

theorem opcodeByteOf_eq_of_encode {i : Instr} {b : Byte} {xs : List Byte} (he : encode i = b :: xs) :
    opcodeByteOf i = b := by
  rw [opcodeByteOf, he, List.headD_cons]

theorem encode_tail_length {i : Instr} {b : Byte} {xs : List Byte} (he : encode i = b :: xs) :
    xs.length = operandCount (t256 b).mode := by
  obtain ⟨b', xs', he', hlen⟩ := Laws.Encoding.all i
  obtain ⟨rfl, rfl⟩ := List.cons.inj (he.symm.trans he')
  exact hlen

/-- The one rule of stepping on a buffer that holds an encoding, a truncated one included (40_decode.md R103). -/
theorem step_of_bufferHolds {s : State} {i : Instr} {b : Byte} {xs : List Byte} (he : encode i = b :: xs)
    (h : BufferHolds s b xs) : step s = exec i s := by
  have hlen := encode_tail_length he
  have htake := take_readBytes_of_bufferHolds h (hlen.trans_le (operandCount_le _))
  obtain ⟨b', ll, hh, rfl⟩ := exists_eq_formInstr i
  rw [encode_formInstr] at he
  obtain ⟨rfl, rfl⟩ := List.cons.inj he
  obtain ⟨hlt, hb, -⟩ := h
  rw [step_of_lt hlt, hb]
  refine congrArg (exec · s) (formInstr_congr ?_)
  rw [formOperandCount_form, ← hlen, htake, hlen]

/-- The length of an encoding, from the instruction's opcode byte. -/
theorem encode_length (i : Instr) : (encode i).length = 1 + operandCount (t256 (opcodeByteOf i)).mode := by
  obtain ⟨b, xs, he, hlen⟩ := Laws.Encoding.all i
  rw [opcodeByteOf_eq_of_encode he, he, List.length_cons, hlen, Nat.add_comm]

@[simp] theorem afterDecode_mem (i : Instr) (s : State) : (afterDecode i s).mem = s.mem := rfl

@[simp] theorem afterDecode_targetAddress (i : Instr) (s : State) :
    (afterDecode i s).targetAddress = s.targetAddress := rfl

/-- A decode moves the cursor past the instruction's encoding. -/
theorem afterDecode_cursor (i : Instr) (s : State) : (afterDecode i s).cursor = s.cursor + (encode i).length := by
  rw [encode_length, ← Nat.add_assoc]
  rfl

/-- Settles O16: the bytes at the cursor are what a step decodes. -/
theorem stepRunsDecodedInstruction : Obligations.StepRunsDecodedInstruction := by
  intro s i rest h
  rw [step, fetchInstr, h]

/-- Settles O17: the first decode leaves the buffer alone and moves the cursor past the first encoding, where the buffer
holds the second. -/
theorem stepsRunConsecutiveEncodings : Obligations.StepsRunConsecutiveEncodings := by
  intro s i j bi bj xs ys hi hj hold hold'
  have hcursor : (afterDecode i s).cursor = s.cursor + (1 + xs.length) := by
    rw [afterDecode_cursor, hi, List.length_cons, Nat.add_comm 1]
  refine ⟨afterDecode i s, ?_, hcursor, step_of_bufferHolds hj ?_⟩
  · rw [step_of_bufferHolds hi hold, exec_of_lt i hold.1]
  · rwa [BufferHolds, hcursor]

/-! ### Encodings one after another -/

/-- Where the caller's bytes have an encoding at the cursor, the buffer holds it there. -/
theorem bufferHolds_ofBytes {s : State} {pre post : List Byte} {b : Byte} {xs : List Byte}
    (hmem : s.mem = Memory.ofBytes (pre ++ (b :: xs) ++ post)) (hcursor : s.cursor = pre.length) :
    BufferHolds s b xs := by
  refine ⟨?_, ?_, fun k v hk => ?_⟩
  · simp [hmem, hcursor]
  · rw [hmem, hcursor, Memory.opcodeByte, Memory.ofBytes_lookup (by simp)]
    simp
  · obtain ⟨hlt, rfl⟩ := List.getElem?_eq_some_iff.1 hk
    rw [hmem, hcursor, Memory.readByte_ofBytes, dif_pos (by simp; omega)]
    simp [Nat.add_assoc, hlt, Nat.add_comm 1]

/-- Where the caller's bytes have the encoding of `i` at the cursor, the next step runs `i` and completes. -/
theorem step_of_encoding {s : State} {i : Instr} {pre post : List Byte}
    (hmem : s.mem = Memory.ofBytes (pre ++ encode i ++ post)) (hcursor : s.cursor = pre.length) :
    step s = exec i s ∧ exec i s = .next (afterDecode i s) := by
  obtain ⟨b, xs, he, -⟩ := Laws.Encoding.all i
  have hold : BufferHolds s b xs := bufferHolds_ofBytes (he ▸ hmem) hcursor
  exact ⟨step_of_bufferHolds he hold, exec_of_lt i hold.1⟩

/-- The bytes of a program, split at one of its instructions. -/
theorem flatten_encode_split (pre post : List Instr) (i : Instr) : ((pre ++ i :: post).map encode).flatten =
    (pre.map encode).flatten ++ encode i ++ (post.map encode).flatten := by
  simp

/-- Decoding through any beginning of a program completes, one decode for each instruction, with the cursor past them. -/
theorem exists_safeRun_of_program {s : State} {is : List Instr}
    (hmem : s.mem = Memory.ofBytes (is.map encode).flatten) (hcursor : s.cursor = 0) (pre : List Instr) :
    ∀ post, is = pre ++ post → ∃ t, SafeRun pre.length s t ∧ t.mem = s.mem ∧
      t.cursor = (pre.map encode).flatten.length := by
  induction pre using List.reverseRecOn with
  | nil => exact fun _ _ => ⟨s, run_zero s, rfl, hcursor⟩
  | append_singleton pre i ih =>
    intro post his
    obtain ⟨t, hrun, htmem, htcursor⟩ := ih (i :: post) (by rw [his, List.append_assoc, List.singleton_append])
    have hbytes : t.mem = Memory.ofBytes ((pre.map encode).flatten ++ encode i ++ (post.map encode).flatten) := by
      rw [htmem, hmem, his, List.append_assoc, List.singleton_append, flatten_encode_split]
    obtain ⟨hstep, hexec⟩ := step_of_encoding hbytes htcursor
    refine ⟨afterDecode i t, ?_, htmem, ?_⟩
    · rw [List.length_append, List.length_singleton]
      exact (run_step hrun).trans (hstep.trans hexec)
    · rw [afterDecode_cursor, htcursor]
      simp

/-- Settles O18: a run through the instructions before one of them ends at its encoding; a run through all of them ends at
the end of the buffer. -/
theorem encodedSequenceDecodesInOrder : Obligations.EncodedSequenceDecodesInOrder := by
  intro is s hmem hcursor
  constructor
  · intro pre post i his
    obtain ⟨t, hrun, htmem, htcursor⟩ := exists_safeRun_of_program hmem hcursor pre (i :: post) his
    have hbytes : t.mem = Memory.ofBytes ((pre.map encode).flatten ++ encode i ++ (post.map encode).flatten) := by
      rw [htmem, hmem, his, flatten_encode_split]
    obtain ⟨hstep, hexec⟩ := step_of_encoding hbytes htcursor
    exact ⟨t, afterDecode i t, hrun, htcursor, hstep, hexec⟩
  · obtain ⟨t, hrun, htmem, htcursor⟩ := exists_safeRun_of_program hmem hcursor is [] (List.append_nil is).symm
    have hend : s.mem.length = t.cursor := by rw [hmem, Memory.ofBytes_length, htcursor]
    rw [run_step hrun, hend]
    exact step_of_ge (by rw [htmem, hend])

/-! ### The table's words -/

/-- The bytes at `c` are these, where the buffer is long enough and has them there. -/
theorem Memory.bytesFrom_eq {m : Memory} {c : Nat} {bytes : List Byte} (hlen : c + bytes.length ≤ m.length)
    (h : ∀ k (hk : k < bytes.length), lookupCell m.cells (c + k) = bytes[k]) :
    m.bytesFrom c bytes.length = bytes := by
  induction bytes generalizing c with
  | nil => rfl
  | cons v rest ih =>
    rw [List.length_cons] at hlen ⊢
    rw [Memory.bytesFrom_succ, if_pos (by omega), ih (by omega) fun k hk => ?_]
    · exact congrArg (· :: rest) (h 0 (Nat.succ_pos _))
    · have hnext := h (k + 1) (Nat.succ_lt_succ hk)
      rwa [← Nat.add_assoc, Nat.add_right_comm] at hnext

/-- What the caller places at `c` are the bytes that a fetch at `c` finds. -/
theorem Memory.bytesFrom_place {m : Memory} (h : m.wf = true) (c : Nat) (bytes : List Byte) :
    (m.place c bytes).bytesFrom c bytes.length = bytes := by
  by_cases hb : bytes = []
  · rw [hb]
    rfl
  · refine Memory.bytesFrom_eq ?_ fun k hk => Memory.place_lookup h c bytes hk
    rw [Memory.place_length, if_neg hb]
    exact le_max_right _ _

theorem decodeTableWord_eq_some {nbits w : Nat} {i : Instr} (h : decodeTableWord nbits w = some i) :
    ∃ rest, decode (wordBytes nbits w) = .ok (i, rest) := by
  rw [decodeTableWord] at h
  split at h
  next j rest hd => exact ⟨rest, by rw [hd, Option.some.inj h]⟩
  next => cases h

/-- Settles O19: the word's bytes, placed at the cursor, are what the step fetches. -/
theorem fetchWordRunsTableWord : Obligations.FetchWordRunsTableWord := by
  intro s nbits w i hwf hword
  obtain ⟨rest, hdecode⟩ := decodeTableWord_eq_some hword
  have hfetched : (s.withFetchWord nbits w).mem.bytesFrom s.cursor Config.maxInstrBytes = wordBytes nbits w :=
    Memory.bytesFrom_place hwf s.cursor (wordBytes nbits w)
  exact stepRunsDecodedInstruction _ i rest (by rw [State.withFetchWord_cursor, hfetched, hdecode])

end Sys2Proof.Machine
end

section
/-!
PROOFS. A decode as the block's caller sees it (40_decode.md R101, R107; 70_reset_and_hazards.md R282, R283): the step is
the spec's transaction, where it completes and what it leaves alone, and that repeated decodes come to the buffer's end.
-/

namespace Sys2Proof.Machine

open Sys2Proof.Claims

/-! ### The transaction -/

theorem decodeTransaction_of_ge {s : State} (h : s.mem.length ≤ s.cursor) :
    decodeTransaction s.targetAddress s.cursor s.mem = .fault (.decodePrecondition s.cursor) := if_pos h

/-- Settles O20: within the buffer both give the decoded record and the cursor past it, elsewhere both fault. -/
theorem stepRefinesDecodeTransaction : Obligations.StepRefinesDecodeTransaction := by
  intro s
  obtain ⟨hlt, hs⟩ | ⟨hge, hs⟩ := step_cases s
  · rw [hs, decodeTransaction_of_lt hlt]
    rfl
  · rw [hs, decodeTransaction_of_ge hge]

/-! ### Where a decode completes, and what it leaves alone -/

/-- Settles O22: within the buffer `exec` completes with the record of the instruction's row. -/
theorem everyInstructionCompletes : Obligations.EveryInstructionCompletes := by
  intro i s h
  obtain ⟨b, xs, he, -⟩ := Laws.Encoding.all i
  refine ⟨afterDecode i s, _, exec_of_lt i h, rfl, ?_, rfl, afterDecode_cursor i s, rfl, rfl⟩
  rw [he, ← opcodeByteOf_eq_of_encode he]
  rfl

/-- Settles O23: a step completes within the buffer and faults elsewhere. -/
theorem stepCompletesExactlyWithinBuffer : Obligations.StepCompletesExactlyWithinBuffer :=
  fun _ => ⟨fun ⟨_, h⟩ => (step_next h).1, fun h => ⟨_, step_eq_next h⟩⟩

/-- Settles O24: the state after a decode is the state before it with another cursor and record. -/
theorem decodeFrame : Obligations.DecodeFrame := by
  intro i s t h
  obtain ⟨-, rfl⟩ := exec_next h
  exact ⟨fun _ => rfl, rfl, rfl⟩

/-- The operand byte count in the terms of the two classes of modes. -/
theorem one_add_operandCount (mode : AddressingMode) : 1 + operandCount mode =
    if mode.hasNoOperand then 1 else if mode.hasOneByteOperand then 2 else 3 := by
  cases mode <;> rfl

/-- Settles O25: the cursor moves past the opcode byte and the operand bytes that the mode counts. -/
theorem cursorAdvance : Obligations.CursorAdvance := by
  intro s t h
  obtain ⟨-, rfl⟩ := step_next h
  refine ⟨decodedRecord s, rfl, ?_⟩
  rw [← one_add_operandCount, ← Nat.add_assoc]
  rfl

/-! ### The same bytes elsewhere -/

/-- A buffer that holds two bytes after the opcode byte reads as them. -/
theorem readByte_of_bufferHolds {s : State} {b : Byte} {xs : List Byte} (h : BufferHolds s b xs) {k : Nat}
    (hk : k < xs.length) : s.mem.readByte (s.cursor + 1 + k) = zeroExtended xs[k] :=
  h.2.2 k _ (List.getElem?_eq_getElem hk)

/-- Settles O30: decodes of one opcode byte differ in the address and the operand, and the operand comes from the two
bytes after it. -/
theorem decodeIsRelocatable : Obligations.DecodeIsRelocatable := by
  intro s₁ s₂ b xs hlen h₁ h₂
  have hb : s₂.mem.opcodeByte s₂.cursor = s₁.mem.opcodeByte s₁.cursor := h₂.2.1.trans h₁.2.1.symm
  have hread : ∀ k, k < xs.length → s₂.mem.readByte (s₂.cursor + 1 + k) = s₁.mem.readByte (s₁.cursor + 1 + k) :=
    fun k hk => (readByte_of_bufferHolds h₂ hk).trans (readByte_of_bufferHolds h₁ hk).symm
  have hrec : decodedRecord s₂ = { decodedRecord s₁ with address := s₂.targetAddress } := by
    rw [decodedRecord_eq_of_opcodeByte_eq hb,
      decodedRecord_operand_eq hb (hread 0 (by omega)) (hread 1 (by omega))]
  have hcount : decodedCount s₂ = decodedCount s₁ := by rw [decodedCount, decodedCount, hb]
  refine ⟨_, _, decodedRecord s₁, 1 + decodedCount s₁, step_eq_next h₁.1, step_eq_next h₂.1, rfl, ?_, ?_, ?_⟩
  · rw [State.complete_record, hrec]
  · rw [State.complete_cursor, Nat.add_assoc]
  · rw [State.complete_cursor, hcount, Nat.add_assoc]

/-! ### The fault stays -/

/-- Settles O40: the fault says that the cursor is at or past the end and which cursor it is. -/
theorem faultDependsOnCursorAndLength : Obligations.FaultDependsOnCursorAndLength := by
  intro s s' f hf hcursor hlen
  obtain ⟨hge, rfl⟩ := step_fault_iff.1 hf
  rw [← hcursor] at hge ⊢
  have hge' : s'.mem.length ≤ s'.cursor := hlen.trans hge
  exact ⟨step_of_ge hge', fun i => exec_of_ge i hge'⟩

/-! ### Repeated decodes -/

/-- The most a decode moves the cursor (40_decode.md R107). -/
theorem decodedCount_le (s : State) : decodedCount s ≤ 2 := operandCount_le _

/-- With a bound on the bytes left: each decode moves the cursor by at least one, and the last one, which begins within the
buffer, by at most three. -/
theorem exists_safeRun_to_end (n : Nat) : ∀ s : State, s.mem.length ≤ s.cursor + n → s.cursor ≤ s.mem.length + 2 →
    ∃ k t, k ≤ s.mem.length - s.cursor ∧ SafeRun k s t ∧ t.mem = s.mem ∧ s.mem.length ≤ t.cursor ∧
      t.cursor ≤ s.mem.length + 2 := by
  induction n with
  | zero => exact fun s hend hpast => ⟨0, s, Nat.zero_le _, run_zero s, rfl, hend, hpast⟩
  | succ n ih =>
    intro s hend hpast
    obtain ⟨hlt, hs⟩ | ⟨hge, -⟩ := step_cases s
    · have hcount := decodedCount_le s
      obtain ⟨k, t, hk, hrun, hmem, hreach, hover⟩ :=
        ih (s.complete (decodedRecord s) (s.cursor + 1 + decodedCount s))
          (by simp only [State.complete_mem, State.complete_cursor]; omega)
          (by simp only [State.complete_mem, State.complete_cursor]; omega)
      simp only [State.complete_mem, State.complete_cursor] at hk hmem hreach hover
      exact ⟨k + 1, t, by omega, (run_next k hs).trans hrun, hmem, hreach, hover⟩
    · exact ⟨0, s, Nat.zero_le _, run_zero s, rfl, hge, hpast⟩

/-- Settles O41: the run to the end leaves the buffer alone, so the next decode faults there. -/
theorem repeatedDecodingReachesTheEnd : Obligations.RepeatedDecodingReachesTheEnd := by
  intro s h
  obtain ⟨k, t, hk, hrun, hmem, hreach, hover⟩ := exists_safeRun_to_end s.mem.length s (by omega) (by omega)
  refine ⟨k, t.cursor, t, hk, hrun, rfl, hreach, hover, ?_⟩
  rw [run_step hrun]
  exact step_of_ge (hmem ▸ hreach)

/-! ### The assumed caller -/

/-- Settles O45: the caller adds to the address what the decode added to the cursor. -/
theorem assumedCallerKeepsOrigin : Obligations.AssumedCallerKeepsOrigin := by
  intro s t origin ha h
  obtain ⟨-, rfl⟩ := step_next h
  refine ⟨?_, rfl, rfl⟩
  rw [callerNext_targetAddress, ha, ← BitVec.ofNat_add, callerNext_cursor, State.complete_cursor]
  congr 1
  omega

end Sys2Proof.Machine
end

section
/-!
PROOFS. The fields of a decoded record (40_decode.md R104 to R108): what table T256, the illegal set and the resolvers say
of every row, and that a latched record is sound.
-/

namespace Sys2Proof.Machine

open Sys2Proof.Claims

/-! ### Facts of the table's rows -/

/-- The twelve bytes whose cycle count is the free value (30_encoding.md R70). -/
def hltBytes : List Byte := [0x02, 0x12, 0x22, 0x32, 0x42, 0x52, 0x62, 0x72, 0x92, 0xB2, 0xD2, 0xF2]

theorem map_cycles_hltBytes : hltBytes.map (fun b => (t256 b).cycles) = List.replicate 12 hltCyclesByte := rfl

theorem hltCyclesByte_le : hltCyclesByte.toNat ≤ 8 := by
  have hlt := Config.hltCycles.isLt
  rw [hltCyclesByte, BitVec.toNat_ofNat]
  omega

theorem mem_hltBytes_or_cycles_le : ∀ b : Byte, b ∈ hltBytes ∨ (t256 b).cycles.toNat ≤ 8 := by decide

/-- R108(e): the rows of HLT have the free value, which is at most 8; each other row has its own count. -/
theorem t256_cycles_le (b : Byte) : (t256 b).cycles.toNat ≤ 8 := by
  obtain hb | hle := mem_hltBytes_or_cycles_le b
  · have hmem : (t256 b).cycles ∈ List.replicate 12 hltCyclesByte :=
      map_cycles_hltBytes ▸ List.mem_map.2 ⟨b, hb, rfl⟩
    rw [List.eq_of_mem_replicate hmem]
    exact hltCyclesByte_le
  · exact hle

/-- What the row of an undocumented byte looks like (R108(d)). -/
def rowIsUndocumented (b : Byte) : Bool :=
  decide ((t256 b).mnemonic ∈ undocumentedMnemonics ∨ ((t256 b).mnemonic = .NOP ∧ b ≠ 0xEA) ∨
    ({ mnemonic := (t256 b).mnemonic, rawByte := b } : Opcode) = { mnemonic := .SBC, rawByte := 0xEB })

/-! The spec lists the illegal and the documented bytes in rising order (30_encoding.md R67, R68), so each list is a part of
the 256 bytes: that alone gives its members, and that it has no repeat. -/

/-- These are, in rising order, the bytes from `lo` on, `n` of them, that have the property. -/
def ListsBytes (lo n : Nat) (bytes : List Byte) (p : Byte → Bool) : Prop :=
  bytes.map BitVec.toNat = (List.range' lo n).filter fun k => p (BitVec.ofNat 8 k)

theorem ListsBytes.append {lo m n : Nat} {xs ys : List Byte} {p : Byte → Bool} (hx : ListsBytes lo m xs p)
    (hy : ListsBytes (lo + m) n ys p) : ListsBytes lo (m + n) (xs ++ ys) p := by
  rw [ListsBytes, List.map_append, hx, hy, ← List.filter_append, List.range'_append_1]

theorem ListsBytes.mem_iff {bytes : List Byte} {p : Byte → Bool} (h : ListsBytes 0 256 bytes p) (b : Byte) :
    b ∈ bytes ↔ p b = true := by
  have hb : b.toNat < 256 := b.isLt
  rw [← List.mem_map_of_injective (fun _ _ => BitVec.eq_of_toNat_eq), h, List.mem_filter, List.mem_range'_1]
  simp [hb]

theorem ListsBytes.nodup {lo n : Nat} {bytes : List Byte} {p : Byte → Bool} (h : ListsBytes lo n bytes p) :
    bytes.Nodup :=
  List.Nodup.of_map BitVec.toNat (h ▸ (List.nodup_range' ..).filter _)

theorem listsBytes_illegalSet : ListsBytes 0 256 illegalSet rowIsUndocumented := by
  rw [ListsBytes]
  decide

theorem listsBytes_documentedBytes : ListsBytes 0 256 documentedBytes fun b => !rowIsUndocumented b := by
  have h0 : ListsBytes 0 71 documentedBytes0 fun b => !rowIsUndocumented b := by rw [ListsBytes]; decide
  have h1 : ListsBytes 71 71 documentedBytes1 fun b => !rowIsUndocumented b := by rw [ListsBytes]; decide
  have h2 : ListsBytes 142 60 documentedBytes2 fun b => !rowIsUndocumented b := by rw [ListsBytes]; decide
  have h3 : ListsBytes 202 54 documentedBytes3 fun b => !rowIsUndocumented b := by rw [ListsBytes]; decide
  exact ((h0.append h1).append h2).append h3

/-- R108(d): the illegal set and the table, two separate lists, agree on which bytes are undocumented. -/
theorem inIllegalSet_iff (b : Byte) : inIllegalSet b = true ↔ rowIsUndocumented b = true := by
  rw [inIllegalSet, List.contains_iff_mem, listsBytes_illegalSet.mem_iff]

/-! ### The relations between the fields (R108) -/

/-- R108(a) and R108(b), in the words of the spec. -/
theorem operandOk_iff {r : Record} : r.operandOk = true ↔
    (r.operand = none ↔ r.addressingMode = .implied ∨ r.addressingMode = .accumulator) ∧
      ∀ v, operandCount r.addressingMode = 1 → r.operand = some v → v.toNat < 0x100 := by
  have hpresence : r.operandPresenceOk = true ↔
      (r.operand = none ↔ r.addressingMode = .implied ∨ r.addressingMode = .accumulator) := by
    rw [Record.operandPresenceOk, beq_iff_eq, Bool.eq_iff_iff, Option.isNone_iff_eq_none]
    cases r.addressingMode <;> simp [AddressingMode.hasNoOperand]
  have hwidth : r.operandWidthOk = true ↔
      ∀ v, operandCount r.addressingMode = 1 → r.operand = some v → v.toNat < 0x100 := by
    simp only [operandCount_eq_one_iff, Record.operandWidthOk]
    cases r.addressingMode.hasOneByteOperand <;> cases r.operand <;> simp
  rw [Record.operandOk, Bool.and_eq_true, hpresence, hwidth]

/-- R108(c), in the words of the spec. -/
theorem extraCycle_iff {mode : AddressingMode} :
    extraCycle mode = true ↔ mode = .relative ∨ carried mode = some true := by
  cases mode <;> simp [extraCycle, carried]

theorem decodedRecord_operandOk (s : State) : (decodedRecord s).operandOk = true :=
  (decodable_iff.1 (decodedRecord_decodable s)).1

/-- Settles O31: the operand is well formed, and the other fields are those of the opcode byte's row. -/
theorem decodedRecordRelations : Obligations.DecodedRecordRelations := by
  intro s t r h hr
  obtain rfl := record_of_step h hr
  obtain ⟨hnone, hwidth⟩ := operandOk_iff.1 (decodedRecord_operandOk s)
  refine ⟨hnone, fun hone => ?_, extraCycle_iff, rfl, (inIllegalSet_iff _).trans decide_eq_true_iff, t256_cycles_le _⟩
  have hsome : (decodedRecord s).operand ≠ none := fun hn =>
    absurd (operandCount_eq_zero_iff.2 (hnone.1 hn)) (by omega)
  obtain ⟨v, hv⟩ := Option.ne_none_iff_exists'.1 hsome
  exact ⟨v, hv, hwidth v hone hv⟩

/-! ### The illegal classifier (30_encoding.md R67, R68) -/

theorem mem_illegalSet_iff (b : Byte) : b ∈ illegalSet ↔ b ∉ documentedBytes := by
  simp [listsBytes_illegalSet.mem_iff, listsBytes_documentedBytes.mem_iff]

/-- Settles O32: one list holds the bytes whose rows are undocumented, the other those whose rows are not. -/
theorem illegalIffUndocumentedByte : Obligations.IllegalIffUndocumentedByte := by
  refine ⟨fun s t r h hr => ?_, mem_illegalSet_iff, rfl, listsBytes_illegalSet.nodup, rfl,
    listsBytes_documentedBytes.nodup⟩
  obtain rfl := record_of_step h hr
  rw [← mem_illegalSet_iff, ← List.contains_iff_mem]
  rfl

/-! ### The page-cross boolean (30_encoding.md R66) -/

theorem carried_iff_pageCrossMnemonic : ∀ (b : Byte) (p : Bool), carried (t256 b).mode = some p →
    (p = true ↔ (t256 b).mnemonic ∈ pageCrossMnemonics) := by
  decide

/-- Settles O33: the record's mode and mnemonic are those of one row. -/
theorem pageCrossBooleanByMnemonic : Obligations.PageCrossBooleanByMnemonic := by
  intro s t r p h hr hp
  obtain rfl := record_of_step h hr
  exact carried_iff_pageCrossMnemonic _ p hp

/-! ### The register sets (40_decode.md R105), transposed -/

theorem dataRead_eq (mn : Mnemonic) :
    dataRead mn = { a := decide (mn ∈ readsA), x := decide (mn ∈ readsX), y := decide (mn ∈ readsY) } := by
  cases mn <;> rfl

theorem dataWritten_eq (mn : Mnemonic) :
    dataWritten mn = { a := decide (mn ∈ writesA), x := decide (mn ∈ writesX), y := decide (mn ∈ writesY) } := by
  cases mn <;> rfl

theorem indexReg_eq (mode : AddressingMode) :
    indexReg mode = { a := false, x := indexedByX mode, y := indexedByY mode } := by
  cases mode <;> rfl

theorem accForm_eq (mn : Mnemonic) (mode : AddressingMode) :
    accForm mn mode = { a := decide (mn ∈ shifts ∧ mode = .accumulator), x := false, y := false } := by
  by_cases h : mn ∈ shifts ∧ mode = .accumulator
  · rw [accForm, if_pos ⟨h.2, by simpa [shifts] using h.1⟩, decide_eq_true h]
    rfl
  · rw [accForm, if_neg fun ⟨hmode, hmn⟩ => h ⟨by simpa [shifts] using hmn, hmode⟩, decide_eq_false h]
    rfl

/-- Reporting the empty set as absent keeps the membership of each register. -/
theorem hasRegister_optRegs (tag : RegisterTag) (s : RegSet) :
    hasRegister tag (optRegs s) = match tag with | .A => s.a | .X => s.x | .Y => s.y := by
  rw [optRegs]
  split
  case isTrue h => cases tag <;> rw [h] <;> rfl
  case isFalse => cases tag <;> rfl

theorem optRegs_ne_empty (s : RegSet) : optRegs s ≠ some RegSet.empty := by
  rw [optRegs]
  split
  case isTrue => exact nofun
  case isFalse h => exact fun he => h (Option.some.inj he)

/-- Settles O34: a register is in the reported set where it is in one of the sets that R105 joins. -/
theorem registerSetsByRegister : Obligations.RegisterSetsByRegister := by
  intro s t r h hr
  obtain rfl := record_of_step h hr
  refine ⟨?_, ?_, ?_, ?_, ?_, ?_, optRegs_ne_empty _, optRegs_ne_empty _⟩ <;>
    simp [decodedRecord, buildRecord, regsRead, regsWritten, hasRegister_optRegs, RegSet.union, dataRead_eq,
      dataWritten_eq, accForm_eq, indexReg_eq]

/-! ### The flag set (40_decode.md R106), transposed -/

/-- The mnemonics that may alter a flag. -/
def altering : FlagTag → List Mnemonic
  | .N => altersN
  | .V => altersV
  | .B => altersB
  | .D => altersD
  | .I => altersI
  | .Z => altersZ
  | .C => altersC

theorem hasFlag_affectedFlags (tag : FlagTag) (mn : Mnemonic) :
    hasFlag tag (affectedFlags mn) = decide (mn ∈ altering tag) := by
  cases mn <;> cases tag <;> rfl

theorem hasFlag_affectedFlags_iff (tag : FlagTag) (mn : Mnemonic) :
    hasFlag tag (affectedFlags mn) = true ↔ mn ∈ altering tag := by
  rw [hasFlag_affectedFlags, decide_eq_true_iff]

theorem affectedFlags_ne_empty (mn : Mnemonic) : affectedFlags mn ≠ some FlagSet.empty := by
  cases mn <;> decide

/-- Settles O35: the record's flag set is the mnemonic's. -/
theorem affectedFlagsByFlag : Obligations.AffectedFlagsByFlag := by
  intro s t r h hr
  obtain rfl := record_of_step h hr
  have hflag := fun tag => hasFlag_affectedFlags_iff tag (decodedRecord s).opcode.mnemonic
  exact ⟨hflag .N, hflag .V, hflag .B, hflag .D, hflag .I, hflag .Z, hflag .C, affectedFlags_ne_empty _⟩

/-! ### The invariant and the reset -/

theorem extraCycle_eq_mayCostExtra (mode : AddressingMode) : extraCycle mode = mode.mayCostExtra := by
  cases mode <;> rfl

/-- A decoded record passes every check on its form. -/
theorem decodedRecord_wellFormed (s : State) : (decodedRecord s).wellFormed = true := by
  have hextra : (decodedRecord s).extraCycleOk = true := beq_iff_eq.2 (extraCycle_eq_mayCostExtra _)
  have hcycles : (decodedRecord s).cyclesOk = true := decide_eq_true (t256_cycles_le _)
  have hsets : (decodedRecord s).setsOk = true := by
    simp only [Record.setsOk, Bool.and_eq_true, bne_iff_ne]
    exact ⟨⟨optRegs_ne_empty _, optRegs_ne_empty _⟩, affectedFlags_ne_empty _⟩
  rw [Record.wellFormed, decodedRecord_operandOk, hextra, hcycles, hsets]
  rfl

theorem decodedRecord_matchesTable (s : State) : recordMatchesTable (decodedRecord s) :=
  ⟨rfl, rfl, rfl, rfl, rfl, rfl, rfl⟩

/-- Settles O42: a step leaves the buffer alone and latches the decoded record, which is sound. -/
theorem stepKeepsInvariant : Obligations.StepKeepsInvariant := by
  rintro s t ⟨hwf, -⟩ h
  refine ⟨?_, fun r hr => ?_⟩
  · obtain ⟨-, rfl⟩ := step_next h
    exact hwf
  · obtain rfl := record_of_step h hr
    exact ⟨decodedRecord_wellFormed s, decodedRecord_matchesTable s⟩

/-- Settles O43: the buffer at reset has no cell, and no record is latched. -/
theorem resetMeetsInvariant : Obligations.ResetMeetsInvariant :=
  ⟨rfl, fun _ hr => nomatch hr⟩

/-- Settles O44: the outputs are functions of the latch, which is empty, and the reset cursor is at the buffer's end. -/
theorem resetHasNoRecord : Obligations.ResetHasNoRecord :=
  ⟨rfl, rfl, rfl, rfl, step_of_ge (Nat.le_refl _)⟩

end Sys2Proof.Machine
end

section
/-!
PROOFS. The buffer: the little-endian word and its two truncated cases (20_memory.md R42, R46), and that a byte which the
caller changes between two decodes is what the next decode reads (92 D18).
-/

namespace Sys2Proof.Machine

open Sys2Proof.Claims

/-! ### `ReadWordLE` -/

/-- The byte of a sequence at an index, zero from its end on. -/
theorem lowByte_readByte_ofBytes (bytes : List Byte) (i : Nat) :
    lowByte ((Memory.ofBytes bytes).readByte i) = if h : i < bytes.length then bytes[i] else 0 := by
  rw [Memory.readByte_ofBytes]
  split
  case isTrue => rw [← zext16_eq_zeroExtended, lowByte_zext16]
  case isFalse => rfl

theorem readWordLE_ofBytes (bytes : List Byte) (c : Nat) : ((Memory.ofBytes bytes).readWordLE c).1 =
    assembleWord (if h : c < bytes.length then bytes[c] else 0)
      (if h : c + 1 < bytes.length then bytes[c + 1] else 0) := by
  rw [← lowByte_readByte_ofBytes, ← lowByte_readByte_ofBytes]
  rfl

/-- Settles O37: the word is assembled from two reads, of which those from the end on are zero. -/
theorem readWordLittleEndian : Obligations.ReadWordLittleEndian := by
  intro bytes c
  refine ⟨rfl, fun h => ?_, fun h => ?_, fun h => ⟨?_, ?_⟩⟩
  · rw [readWordLE_ofBytes, dif_pos (Nat.lt_of_succ_lt h), dif_pos h, assembleWord_eq_littleEndian]
  · rw [readWordLE_ofBytes, dif_pos (Nat.lt_of_succ_le h.le), dif_neg (Nat.not_lt.2 h.ge), assembleWord_zero,
      zext16_eq_zeroExtended]
  · rw [readWordLE_ofBytes, dif_neg (Nat.not_lt.2 h), dif_neg (Nat.not_lt.2 (Nat.le_succ_of_le h)), assembleWord_zero]
    rfl
  · exact Memory.readByte_of_ge (by rwa [Memory.ofBytes_length])

/-! ### A changed buffer -/

theorem Memory.lowByte_readByte_put {m : Memory} (h : m.wf = true) (i : Nat) (v : Byte) :
    lowByte ((m.put i v).readByte i) = v := by
  rw [Memory.readByte_of_lt (by simp), lowByte_zext16, Memory.put_lookup_same h]

theorem map_lowByte_operandOfCount (ll hh : Byte) {n : Nat} (hn : n ≠ 0) :
    (operandOfCount ll hh n).map lowByte = some ll := by
  match n with
  | 1 => exact congrArg some (lowByte_zext16 ll)
  | _ + 2 => exact congrArg some (lowByte_assembleWord ll hh)

theorem map_highByte_operandOfCount (ll hh : Byte) : (operandOfCount ll hh 2).map highByte = some hh :=
  congrArg some (highByte_assembleWord ll hh)

/-- Settles O38: a decode leaves the buffer canonical, so a byte put into it is read back at its place. -/
theorem changedBufferIsSeen : Obligations.ChangedBufferIsSeen := by
  intro s t k v hwf h hk
  obtain ⟨-, rfl⟩ := step_next h
  rw [State.complete_mem, State.complete_cursor]
  have hread := Memory.lowByte_readByte_put hwf (s.cursor + 1 + decodedCount s + k) v
  have hopcode : (s.mem.put (s.cursor + 1 + decodedCount s + k) v).opcodeByte (s.cursor + 1 + decodedCount s + k) = v :=
    Memory.put_lookup_same hwf _ v
  refine ⟨_, _, step_eq_next ?_, rfl, ?_, ?_, ?_⟩
  · change s.cursor + 1 + decodedCount s < max s.mem.length (s.cursor + 1 + decodedCount s + k + 1)
    omega
  · rintro rfl
    exact hopcode
  · rintro rfl hn
    rw [decodedRecord_operand, map_lowByte_operandOfCount _ _ hn]
    exact congrArg some hread
  · rintro rfl hn
    rw [decodedRecord_operand, hn, map_highByte_operandOfCount]
    exact congrArg some hread

end Sys2Proof.Machine
end

section
/-!
PROOFS. The formatter's domain (44_formatter.md R239, 92 D24): the records that it takes are those that `Decode` produces,
and which these are (40_decode.md R104, R108).
-/

namespace Sys2Proof.Machine

open Sys2Proof.Claims

/-- The state whose next decode is to give the record: its opcode byte and its operand's bytes in a buffer, under its
address. -/
def producer (r : Record) : State :=
  State.reset.request r.address 0
    (Memory.ofBytes [r.opcode.rawByte, lowByte (operandValue r), highByte (operandValue r)])

theorem decodedRecord_producer {r : Record} (h : decodable r = true) : decodedRecord (producer r) = r := by
  obtain ⟨hoperand, hbuilt⟩ := decodable_iff.1 h
  have hbytes := fun i => lowByte_readByte_ofBytes
    [r.opcode.rawByte, lowByte (operandValue r), highByte (operandValue r)] i
  have hopcode : (producer r).mem.opcodeByte (producer r).cursor = r.opcode.rawByte :=
    Memory.ofBytes_lookup (bytes := [r.opcode.rawByte, _, _]) (Nat.succ_pos _)
  have hmode : r.addressingMode = (t256 r.opcode.rawByte).mode := congrArg Record.addressingMode hbuilt
  have hvalue := operandOfCount_of_operandOk hoperand
  rw [hmode] at hvalue
  rw [decodedRecord, hopcode]
  conv_rhs => rw [hbuilt, hvalue]
  simp only [producer, State.request_mem, State.request_cursor, State.request_targetAddress, hbytes]
  rfl

/-- The formatter's domain is what `Decode` produces. -/
theorem produced_iff_decodable {r : Record} : Produced r ↔ decodable r = true := by
  constructor
  · rintro ⟨s, t, h, hr⟩
    obtain rfl := record_of_step h hr
    exact decodedRecord_decodable s
  · intro h
    have hlt : (producer r).cursor < (producer r).mem.length := by simp [producer]
    exact ⟨producer r, _, step_eq_next hlt, congrArg some (decodedRecord_producer h)⟩

theorem decodable_eq_false_of_not_produced {r : Record} (h : ¬ Produced r) : decodable r = false :=
  Bool.eq_false_iff.2 fun hd => h (produced_iff_decodable.2 hd)

/-- A record is built from its own opcode byte where its constants are the byte's and its extra cycle is its mode's. -/
theorem eq_buildRecord_iff {r : Record} :
    r = buildRecord r.address r.opcode.rawByte (t256 r.opcode.rawByte).mnemonic (t256 r.opcode.rawByte).mode
      (t256 r.opcode.rawByte).cycles r.operand ↔
    recordMatchesTable r ∧ r.extraCycle = extraCycle r.addressingMode := by
  obtain ⟨⟨mn, b⟩, mode, a, cycles, operand, extra, read, written, affected, illegal⟩ := r
  simp only [buildRecord, recordMatchesTable, Record.mk.injEq, Opcode.mk.injEq, and_true, true_and]
  constructor
  · rintro ⟨rfl, rfl, rfl, rfl, rfl, rfl, rfl, rfl⟩
    exact ⟨⟨rfl, rfl, rfl, rfl, rfl, rfl, rfl⟩, rfl⟩
  · rintro ⟨⟨rfl, rfl, rfl, rfl, rfl, rfl, rfl⟩, rfl⟩
    exact ⟨rfl, rfl, rfl, rfl, rfl, rfl, rfl, rfl⟩

/-- Settles O50: the formatter's domain, in the words of R108 and R104. -/
theorem producedRecordsAreTableRecords : Obligations.ProducedRecordsAreTableRecords := by
  intro r
  rw [produced_iff_decodable, decodable_iff, operandOk_iff, eq_buildRecord_iff, ← extraCycle_iff, Bool.eq_iff_iff]

theorem outputs_of_produced {r : Record} (h : Produced r) :
    (∃ x, asHexStr r = .ok x) ∧ (∃ x, asStr r = .ok x) ∧ ∃ x, display r = .ok x := by
  have hd := produced_iff_decodable.1 h
  exact ⟨⟨_, formatOn_of_decodable _ hd⟩, ⟨_, formatOn_of_decodable _ hd⟩, ⟨_, formatOn_of_decodable _ hd⟩⟩

/-- Settles O48: a decoded record is in the domain. -/
theorem decodedRecordsAreFormatted : Obligations.DecodedRecordsAreFormatted :=
  fun s t _ h hr => outputs_of_produced ⟨s, t, h, hr⟩

/-- A `Relative` record has the formatter's answer for its target. -/
theorem relTarget_of_relative {r : Record} (h : r.addressingMode = .relative) :
    relTarget r = some (formatOn (fun r => relTargetOf r.address (operandValue r)) r) := if_pos h

/-- Settles O49: every output asks for the one domain, whose records meet R108(a), R108(b) and R108(c). -/
theorem formatterRefusesOutsideDomain : Obligations.FormatterRefusesOutsideDomain := by
  intro r
  have hwell := (producedRecordsAreTableRecords r).1
  refine ⟨fun h => ?_, fun h => ?_, fun hn h => hn (hwell h).1.1, fun v hone hv hwide h => ?_,
    fun hn h => hn (hwell h).2.2⟩
  · obtain ⟨hhex, hasm, hline⟩ := outputs_of_produced h
    exact ⟨hhex, hasm, hline, fun hrel =>
      ⟨_, by rw [relTarget_of_relative hrel, formatOn_of_decodable _ (produced_iff_decodable.1 h)]⟩⟩
  · have hd := decodable_eq_false_of_not_produced h
    exact ⟨formatOn_of_not _ hd, formatOn_of_not _ hd, formatOn_of_not _ hd,
      fun hrel => by rw [relTarget_of_relative hrel, formatOn_of_not _ hd]⟩
  · exact absurd ((hwell h).1.2 v hone hv) (Nat.not_lt.2 hwide)

end Sys2Proof.Machine
end

section
/-!
PROOFS. What the formatter's outputs say (44_formatter.md R231 to R238): the digits, the mnemonics' letters, the operand
text of each mode, the relative target, the lengths, and that every character is an ASCII one (92 D28).
-/

namespace Sys2Proof.Machine

open Sys2Proof.Claims

/-! ### Hexadecimal digits (R231) -/

theorem hexDigit_eq_digit : ∀ d : BitVec 4, hexDigit d = digit d.toNat := by decide

/-- The two digits of a byte are its high and its low half. -/
theorem hex2_eq_digits (v : Byte) : hex2 v = [digit (v.toNat / 16), digit (v.toNat % 16)] := by
  have hv := v.isLt
  have hhigh : (v.extractLsb' 4 4).toNat = v.toNat / 16 := by
    rw [BitVec.extractLsb'_toNat, Nat.shiftRight_eq_div_pow]
    omega
  have hlow : (v.extractLsb' 0 4).toNat = v.toNat % 16 := by
    rw [BitVec.extractLsb'_toNat, Nat.shiftRight_zero]
  rw [hex2, hexDigit_eq_digit, hexDigit_eq_digit, hhigh, hlow]

/-- Settles O47: a word's digits are those of its high byte and those of its low byte. -/
theorem hexDigitsSpellValues : Obligations.HexDigitsSpellValues := by
  refine ⟨hex2_eq_digits, fun v => ?_⟩
  have hhigh : v.toNat / 256 / 16 = v.toNat / 4096 := by omega
  have hlow : v.toNat % 256 / 16 = v.toNat / 16 % 16 := by omega
  have hlast : v.toNat % 256 % 16 = v.toNat % 16 := by omega
  rw [hex4, hex2_eq_digits, hex2_eq_digits, highByte_toNat, lowByte_toNat, hhigh, hlow, hlast]
  rfl

/-! ### Mnemonics (R234) -/

/-- Settles O46: the two lists name each mnemonic once, and the formatter spells it as they do. -/
theorem mnemonicsAreSpelled : Obligations.MnemonicsAreSpelled := by
  refine ⟨?_, fun m => ?_, rfl, rfl, by decide⟩
  · decide
  · cases m <;> decide

/-! ### The text of a record -/

/-- The one space stands before an operand text that is not empty. -/
theorem joinOperand_of_ne_nil (mnemonic : Text) {x : Text} (h : x ≠ []) :
    joinOperand mnemonic x = mnemonic ++ ' ' :: x := by
  cases x with
  | nil => exact absurd rfl h
  | cons c rest => rfl

/-- A record whose operand is made of the bytes `ll` and `hh` has the text that the table of R235 gives for them. -/
theorem asmText_eq_textOf {r : Record} {ll hh : Byte}
    (h : r.operand = operandOfCount ll hh (operandCount r.addressingMode)) :
    asmText r = textOf r.opcode.mnemonic r.address ll hh r.addressingMode := by
  rw [asmText, operandValue, h]
  cases r.addressingMode <;>
    simp [operandText, operandCount, operandOfCount, textOf, joinOperand, hex4, relTargetOf, sext16_eq_signExtend]

/-- Settles O53: the record's operand is made of the two bytes after the opcode byte. -/
theorem operandTextByMode : Obligations.OperandTextByMode := by
  intro s t r h hr
  obtain rfl := record_of_step h hr
  rw [asStr, formatOn_of_decodable _ (decodedRecord_decodable s), asmText_eq_textOf (decodedRecord_operand s)]
  rfl

theorem hexText_length (r : Record) : (hexText r).length = 8 := by
  rw [hexText, List.length_append, hex2_length, hexOperandField_length]

/-- An instruction's hex string, from its encoding. -/
theorem hexOf_of_encode {i : Instr} {b : Byte} {xs : List Byte} {x : String} (he : encode i = b :: xs)
    (hx : hexLine b xs = x.toList) (s : State) : hexOf i s x :=
  fun t r h hr => hx ▸ hexStringShowsEncoding i s t r b xs h hr he

/-- Settles O52: the opcode byte has two digits and the operand field six characters; the examples are encodings. -/
theorem hexStringHasEightCharacters : Obligations.HexStringHasEightCharacters := by
  refine ⟨fun r x h => ?_, hexOf_of_encode rfl rfl, hexOf_of_encode rfl rfl, hexOf_of_encode rfl rfl⟩
  obtain ⟨-, rfl⟩ := formatOn_ok h
  exact hexText_length r

/-- Settles O55: the display line is made of the address and the other two texts. -/
theorem displayLineIsComposed : Obligations.DisplayLineIsComposed := by
  intro r h x hh hx
  obtain ⟨hd, rfl⟩ := formatOn_ok hh
  obtain ⟨-, rfl⟩ := formatOn_ok hx
  rw [display, formatOn_of_decodable _ hd, displayText]
  simp

/-- Settles O54: the texts are made of these four fields and the two digits of the raw byte. -/
theorem textIgnoresUnrenderedFields : Obligations.TextIgnoresUnrenderedFields := by
  intro r r' hmn hmode ha hoperand
  have hasm : asmText r' = asmText r := by rw [asmText, asmText, operandValue, operandValue, hmn, hmode, ha, hoperand]
  have hfield : hexOperandField r'.addressingMode (operandValue r') =
      hexOperandField r.addressingMode (operandValue r) := by
    rw [operandValue, operandValue, hmode, hoperand]
  refine ⟨fun x x' hx hx' => ?_, fun x x' hx hx' => ?_, fun x x' hx hx' => ?_⟩ <;>
    obtain ⟨-, rfl⟩ := formatOn_ok hx <;> obtain ⟨-, rfl⟩ := formatOn_ok hx'
  · exact hasm
  · exact hfield
  · rw [displayText, displayText, hexText, hexText, ha, hfield, hasm]
    exact ⟨rfl, rfl⟩

/-! ### The relative target (R236) -/

/-- The target as an integer modulo 2^16. -/
theorem relTargetOf_toNat (a v : Word) :
    ((relTargetOf a v).toNat : Int) = ((a.toNat : Int) + 2 + (lowByte v).toInt) % 65536 := by
  rw [relTargetOf, sext16_eq_signExtend]
  generalize lowByte v = offset
  have hsext : (offset.signExtend 16).toInt = offset.toInt := BitVec.toInt_signExtend_of_le (by decide)
  have hcond := BitVec.toInt_eq_toNat_cond (offset.signExtend 16)
  rw [hsext] at hcond
  split at hcond <;> bv_omega

/-- Settles O56: a decoded record's operand is the byte after the opcode byte, widened. -/
theorem relativeTargetWraps : Obligations.RelativeTargetWraps := by
  refine ⟨fun s t r h hr hrel => ?_, fun r hrel h => ?_, fun r hrel => if_neg hrel⟩
  · obtain rfl := record_of_step h hr
    refine ⟨_, by rw [relTarget_of_relative hrel, formatOn_of_decodable _ (decodedRecord_decodable s)], ?_⟩
    have hoffset : lowByte (operandValue (decodedRecord s)) = lowByte (s.mem.readByte (s.cursor + 1)) := by
      rw [operandValue, decodedRecord_operand, hrel]
      exact lowByte_zext16 _
    rw [relTargetOf_toNat, hoffset]
    rfl
  · rw [relTarget_of_relative hrel, formatOn_of_not _ (decodable_eq_false_of_not_produced h)]

/-- Settles O57: an offset of -2 gives the branch to itself, and the others compute. -/
theorem relativeTargetCornerCases : Obligations.RelativeTargetCornerCases := by
  refine ⟨rfl, fun a => ?_, rfl, rfl, rfl⟩
  have hoffset : sext16 (lowByte 0x00FE) = -2 := by decide
  rw [relTargetOf, hoffset, BitVec.add_neg_eq_sub, BitVec.add_sub_cancel]

/-! ### ASCII (92 D28) -/

/-- Every character is below 128. -/
def IsAscii (x : Text) : Prop := ∀ ch ∈ x, ch.toNat < 128

@[simp] theorem isAscii_nil : IsAscii [] := fun _ h => nomatch h

@[simp] theorem isAscii_cons {c : Char} {x : Text} : IsAscii (c :: x) ↔ c.toNat < 128 ∧ IsAscii x :=
  List.forall_mem_cons

@[simp] theorem isAscii_append {x y : Text} : IsAscii (x ++ y) ↔ IsAscii x ∧ IsAscii y :=
  List.forall_mem_append

@[simp] theorem hexDigit_toNat_lt : ∀ d : BitVec 4, (hexDigit d).toNat < 128 := by decide

@[simp] theorem isAscii_hex2 (v : Byte) : IsAscii (hex2 v) := by simp [hex2]

@[simp] theorem isAscii_hex4 (v : Word) : IsAscii (hex4 v) := by simp [hex4]

@[simp] theorem isAscii_mnemonicText (mn : Mnemonic) : IsAscii (mnemonicText mn) := by
  cases mn <;> simp [mnemonicText]

theorem isAscii_hexOperandField (mode : AddressingMode) (v : Word) : IsAscii (hexOperandField mode v) := by
  rw [hexOperandField]
  split <;> simp

theorem isAscii_operandText (mode : AddressingMode) (address v : Word) : IsAscii (operandText mode address v) := by
  cases mode <;> simp [operandText]

theorem isAscii_joinOperand {mnemonic x : Text} (hm : IsAscii mnemonic) (hx : IsAscii x) :
    IsAscii (joinOperand mnemonic x) := by
  cases x with
  | nil => exact hm
  | cons c rest => simpa [joinOperand, hm] using hx

theorem isAscii_hexText (r : Record) : IsAscii (hexText r) :=
  isAscii_append.2 ⟨isAscii_hex2 _, isAscii_hexOperandField _ _⟩

theorem isAscii_asmText (r : Record) : IsAscii (asmText r) :=
  isAscii_joinOperand (isAscii_mnemonicText _) (isAscii_operandText _ _ _)

theorem isAscii_displayText (r : Record) : IsAscii (displayText r) := by
  simp [displayText, isAscii_hexText, isAscii_asmText]

/-- Settles O58: the outputs are joined of texts whose characters are ASCII ones. -/
theorem outputsAreAscii : Obligations.OutputsAreAscii := by
  rintro r x (h | h | h) <;> obtain ⟨-, rfl⟩ := formatOn_ok h
  · exact isAscii_hexText r
  · exact isAscii_asmText r
  · exact isAscii_displayText r

end Sys2Proof.Machine
end

section
/-!
PROOFS. The rows of the opcode table (files 41, 42 and 43). One lemma says all that a row claims, from three facts that
compute: the encoding, the record's constants and the text.
-/

namespace Sys2Proof.Machine

open Sys2Proof.Claims

/-- The operand that operand bytes make, in the terms of the rows. -/
def claimedOperand : List Byte → Option Word
  | [] => none
  | [ll] => some (zeroExtended ll)
  | ll :: hh :: _ => some (littleEndian ll hh)

theorem operandOf_eq_claimedOperand {i : Instr} {b : Byte} {xs : List Byte} (he : encode i = b :: xs) :
    operandOf i = claimedOperand xs := by
  rw [operandOf, he]
  match xs with
  | [] => rfl
  | [_] => rfl
  | ll :: hh :: _ => exact congrArg some (assembleWord_eq_littleEndian ll hh)

theorem claimedOperand_eq_operandOfCount {xs : List Byte} (hlen : xs.length ≤ 2) :
    claimedOperand xs = operandOfCount (xs.headD 0) (xs.tail.headD 0) xs.length := by
  match xs, hlen with
  | [], _ => rfl
  | [_], _ => rfl
  | [ll, hh], _ => exact congrArg some (assembleWord_eq_littleEndian ll hh).symm

theorem take_headD {xs : List Byte} (hlen : xs.length ≤ 2) : [xs.headD 0, xs.tail.headD 0].take xs.length = xs := by
  match xs, hlen with
  | [], _ => rfl
  | [_], _ => rfl
  | [_, _], _ => rfl

/-- The record of a table row with the operand of these bytes. -/
def tableRecord (b : Byte) (xs : List Byte) (a : Word) : Record :=
  buildRecord a b (t256 b).mnemonic (t256 b).mode (t256 b).cycles (claimedOperand xs)

/-- Within the buffer `exec` latches the table's record and moves the cursor past the encoding. -/
theorem exec_of_encode {i : Instr} {b : Byte} {xs : List Byte} (he : encode i = b :: xs) {s : State}
    (h : s.cursor < s.mem.length) : exec i s =
      .next { s with cursor := s.cursor + (1 + xs.length), record := some (tableRecord b xs s.targetAddress) } := by
  rw [exec_of_lt i h, afterDecode, opcodeByteOf_eq_of_encode he, operandOf_eq_claimedOperand he, Nat.add_assoc,
    ← encode_tail_length he]
  rfl

/-- The texts of a table record. -/
theorem texts_of_tableRecord {b : Byte} {xs : List Byte} (hlen : xs.length = operandCount (t256 b).mode) (a : Word) :
    asStr (tableRecord b xs a) = .ok (textOf (t256 b).mnemonic a (xs.headD 0) (xs.tail.headD 0) (t256 b).mode) ∧
      asHexStr (tableRecord b xs a) = .ok (hexLine b xs) := by
  have hle : xs.length ≤ 2 := hlen.trans_le (operandCount_le _)
  have hoperand : claimedOperand xs =
      operandOfCount (xs.headD 0) (xs.tail.headD 0) (operandCount (t256 b).mode) := by
    rw [claimedOperand_eq_operandOfCount hle, hlen]
  have hd : decodable (tableRecord b xs a) = true := by
    rw [tableRecord, hoperand]
    exact decodable_buildRecord a b _ _
  have hline := hexOperandField_eq_hexLine b (xs.headD 0) (xs.tail.headD 0) (t256 b).mode
  rw [← hoperand, ← hlen, take_headD hle] at hline
  constructor
  · rw [asStr, formatOn_of_decodable _ hd, asmText_eq_textOf hoperand]
    rfl
  · rw [asHexStr, formatOn_of_decodable _ hd]
    exact congrArg Except.ok hline

/-- An instruction's row holds where its record is the table's and its text is that of the row's mode. -/
theorem rowHolds_of_tableRecord {i : Instr} {b : Byte} {xs : List Byte} {rec : Word → Record} {text : Word → Text}
    (he : encode i = b :: xs) (hrec : ∀ a, rec a = tableRecord b xs a)
    (htext : ∀ a, text a = textOf (t256 b).mnemonic a (xs.headD 0) (xs.tail.headD 0) (t256 b).mode) :
    RowHolds i xs rec text := by
  have htexts := texts_of_tableRecord (encode_tail_length he)
  obtain rfl : rec = tableRecord b xs := funext hrec
  obtain rfl : text = _ := funext htext
  exact ⟨he, fun _ => exec_of_encode he, fun _ => exec_of_ge i, fun _ => step_of_bufferHolds he,
    fun a => (htexts a).1, fun a => (htexts a).2⟩

/-! ### The families -/

/-- Settles O1: the table has these constants for the bytes of the loads and stores. -/
theorem loadAndStoreRows : Obligations.LoadAndStoreRows := by
  intro ll hh
  with_reducible and_intros
  all_goals exact rowHolds_of_tableRecord rfl (fun _ => rfl) fun _ => rfl

/-- Settles O2: the table has these constants for the bytes of the arithmetic and logic. -/
theorem arithmeticAndLogicRows : Obligations.ArithmeticAndLogicRows := by
  intro ll hh
  with_reducible and_intros
  all_goals exact rowHolds_of_tableRecord rfl (fun _ => rfl) fun _ => rfl

/-- Settles O3: the table has these constants for the bytes of the compares, increments and decrements. -/
theorem compareAndIncrementRows : Obligations.CompareAndIncrementRows := by
  intro ll hh
  with_reducible and_intros
  all_goals exact rowHolds_of_tableRecord rfl (fun _ => rfl) fun _ => rfl

/-- Settles O4: the table has these constants for the bytes of the shifts and rotates. -/
theorem shiftAndRotateRows : Obligations.ShiftAndRotateRows := by
  intro ll hh
  with_reducible and_intros
  all_goals exact rowHolds_of_tableRecord rfl (fun _ => rfl) fun _ => rfl

/-- Settles O5: the table has these constants for the bytes of the branches, and a branch's text is its target. -/
theorem branchRows : Obligations.BranchRows := by
  intro ll
  with_reducible and_intros
  all_goals exact rowHolds_of_tableRecord rfl (fun _ => rfl) fun _ => rfl

/-- Settles O6: the table has these constants for the bytes of the jumps, returns, BRK and the documented NOP. -/
theorem jumpReturnAndNopRows : Obligations.JumpReturnAndNopRows := by
  intro ll hh
  with_reducible and_intros
  all_goals exact rowHolds_of_tableRecord rfl (fun _ => rfl) fun _ => rfl

/-- Settles O7: the table has these constants for the bytes of the stack and transfer instructions. -/
theorem stackAndTransferRows : Obligations.StackAndTransferRows := by
  unfold Obligations.StackAndTransferRows
  with_reducible and_intros
  all_goals exact rowHolds_of_tableRecord rfl (fun _ => rfl) fun _ => rfl

/-- Settles O8: the table has these constants for the bytes that set and clear flags. -/
theorem flagInstructionRows : Obligations.FlagInstructionRows := by
  unfold Obligations.FlagInstructionRows
  with_reducible and_intros
  all_goals exact rowHolds_of_tableRecord rfl (fun _ => rfl) fun _ => rfl

/-- Settles O9: the table has these constants for the undocumented read-modify-write bytes. -/
theorem undocumentedReadModifyWriteRows : Obligations.UndocumentedReadModifyWriteRows := by
  intro ll hh
  with_reducible and_intros
  all_goals exact rowHolds_of_tableRecord rfl (fun _ => rfl) fun _ => rfl

/-- Settles O10: the table has these constants for the other undocumented mnemonics' bytes. -/
theorem undocumentedOtherRows : Obligations.UndocumentedOtherRows := by
  intro ll hh
  with_reducible and_intros
  all_goals exact rowHolds_of_tableRecord rfl (fun _ => rfl) fun _ => rfl

/-- Settles O11: the table has these constants for the HLT, NOP and SBC duplicates, the free
cycle count standing on both sides. -/
theorem haltAndDuplicateRows : Obligations.HaltAndDuplicateRows := by
  intro ll hh
  with_reducible and_intros
  all_goals exact rowHolds_of_tableRecord rfl (fun _ => rfl) fun _ => rfl

end Sys2Proof.Machine
end
